-- ==== Sys2Proof/Word.lean ====
section
/-! DEFINITION. The word types of the VQ-420's ports, link and coordinate spaces, and the containers
for what exists once for each channel and once for each port. -/
namespace Sys2Proof

/-- A byte position of the port window, or a link byte (R152, R166). -/
abbrev Byte := BitVec 8

/-- One word moved through DATA (R173). -/
abbrev Word := BitVec 16

/-- A drawing-unit coordinate, a signed 32-bit integer (R1); its value is `toInt`. -/
abbrev Coord := BitVec 32

/-- A tablet coordinate, 0 to 32767 (R1). -/
abbrev TabletCoord := BitVec 15

/-- A set of events: PARAM0, PARAM1 and PARAM2 of R196, PARAM0 lowest. -/
abbrev EventSet := BitVec 24

/-- The two Command Block Ports: Port A carries the application role, Port B the display role (R171). -/
inductive PortId where
  | a
  | b
deriving DecidableEq, Repr

/-- The two channels, one for each seat. -/
inductive Chan where
  | c0
  | c1
deriving DecidableEq, Repr

/-- What exists once for each channel. -/
structure PerChan (α : Type) where
  ch0 : α
  ch1 : α
deriving DecidableEq, Repr

namespace PerChan

/-- The copy of channel `c`. -/
def get {α : Type} (x : PerChan α) : Chan → α
  | .c0 => x.ch0
  | .c1 => x.ch1

/-- Replace the copy of channel `c`. -/
def set {α : Type} (x : PerChan α) (c : Chan) (v : α) : PerChan α :=
  match c with
  | .c0 => { x with ch0 := v }
  | .c1 => { x with ch1 := v }

end PerChan

/-- What exists once for each port. -/
structure PerPort (α : Type) where
  pa : α
  pb : α
deriving DecidableEq, Repr

namespace PerPort

/-- The copy of port `p`. -/
def get {α : Type} (x : PerPort α) : PortId → α
  | .a => x.pa
  | .b => x.pb

/-- Replace the copy of port `p`. -/
def set {α : Type} (x : PerPort α) (p : PortId) (v : α) : PerPort α :=
  match p with
  | .a => { x with pa := v }
  | .b => { x with pb := v }

end PerPort

end Sys2Proof
end

