-- ==== Sys2Proof/Config.lean ====
section
/-! DEFINITION. The fixed values of the part: capacities and identity codes. The guide leaves no value
to the implementation, so there is no free value here. -/
namespace Sys2Proof.Config

/-- Slots of the Snap Candidate Table (R15). -/
def tableSlots : Nat := 1024

/-- Items of the edit queue (R19). -/
def editQueueItems : Nat := 16

/-- Records of the Pick Queue (R114). -/
def pickQueueRecords : Nat := 32

/-- Reports of a channel's report queue (R71). -/
def reportQueueReports : Nat := 4

/-- Points of an anchor list (R91). -/
def anchorListPoints : Nat := 16

/-- Strokes of an overlay frame (R141). -/
def frameStrokes : Nat := 48

/-- Frames of the holding buffer (R159). -/
def holdingFrames : Nat := 2

/-- The part code (R182). -/
def partCode : Word := 0x0420

/-- The revision code of the parts the guide applies to (layout of the identity block). DEDUCED, log 21. -/
def revisionCode : Word := 0x0001

end Sys2Proof.Config
end

