-- ==== Sys2Proof/Syntax.lean ====
section
/-! DEFINITION. The commands of the block: one constructor of `Instr` for each row of
spec/opcode_table.json, and the 26 command names of the command table (R195). -/
namespace Sys2Proof

/-- The commands of the command table of R195. -/
inductive Command where
  | loadCandidates
  | removeCandidates
  | setWindow
  | clearTable
  | setGrid
  | setSnap
  | setRest
  | resetChannel
  | readCursor
  | armFigure
  | cancelFigure
  | releaseFigure
  | clearStall
  | readPicks
  | flushPicks
  | setPickThreshold
  | setStation
  | clearLink
  | setView
  | setStyle
  | fetchOverlay
  | readEvents
  | clearEvents
  | setEventMask
  | setBurst
  | identify
deriving DecidableEq, Repr

/-- The five byte positions that a master and the port share (R166). -/
inductive ParamPos where
  | param0
  | param1
  | param2
  | param3
  | count
deriving DecidableEq, Repr

/-- The steps of the part, one constructor for each row of the table.
A write of a command code has the port as its operand: its parameters are the window values (R170, log 15). -/
inductive Instr where
  /-- Write of 10h to COMMAND. -/
  | loadCandidates (p : PortId)
  /-- Write of 11h to COMMAND. -/
  | removeCandidates (p : PortId)
  /-- Write of 12h to COMMAND. -/
  | setWindow (p : PortId)
  /-- Write of 13h to COMMAND. -/
  | clearTable (p : PortId)
  /-- Write of 18h to COMMAND. -/
  | setGrid (p : PortId)
  /-- Write of 19h to COMMAND. -/
  | setSnap (p : PortId)
  /-- Write of 1Ah to COMMAND. -/
  | setRest (p : PortId)
  /-- Write of 20h to COMMAND. -/
  | resetChannel (p : PortId)
  /-- Write of 21h to COMMAND. -/
  | readCursor (p : PortId)
  /-- Write of 28h to COMMAND. -/
  | armFigure (p : PortId)
  /-- Write of 29h to COMMAND. -/
  | cancelFigure (p : PortId)
  /-- Write of 2Ah to COMMAND. -/
  | releaseFigure (p : PortId)
  /-- Write of 2Bh to COMMAND. -/
  | clearStall (p : PortId)
  /-- Write of 30h to COMMAND. -/
  | readPicks (p : PortId)
  /-- Write of 31h to COMMAND. -/
  | flushPicks (p : PortId)
  /-- Write of 32h to COMMAND. -/
  | setPickThreshold (p : PortId)
  /-- Write of 38h to COMMAND. -/
  | setStation (p : PortId)
  /-- Write of 39h to COMMAND. -/
  | clearLink (p : PortId)
  /-- Write of 40h to COMMAND. -/
  | setView (p : PortId)
  /-- Write of 41h to COMMAND. -/
  | setStyle (p : PortId)
  /-- Write of 42h to COMMAND. -/
  | fetchOverlay (p : PortId)
  /-- Write of 50h to COMMAND. -/
  | readEvents (p : PortId)
  /-- Write of 51h to COMMAND. -/
  | clearEvents (p : PortId)
  /-- Write of 52h to COMMAND. -/
  | setEventMask (p : PortId)
  /-- Write of 58h to COMMAND. -/
  | setBurst (p : PortId)
  /-- Write of 5Fh to COMMAND. -/
  | identify (p : PortId)
  /-- Write to COMMAND of a code that names no command. -/
  | unknownCommand (p : PortId) (code : Byte)
  /-- Write of one word to DATA. -/
  | dataWrite (p : PortId) (w : Word)
  /-- Read of one word from DATA. -/
  | dataRead (p : PortId)
  /-- Read of STATUS. -/
  | statusRead (p : PortId)
  /-- Write of CONTROL with soft reset 1; `v` is the byte written. -/
  | portSoftReset (p : PortId) (v : Byte)
  /-- Write of CONTROL with soft reset 0, to release a held port. -/
  | softResetRelease (p : PortId) (v : Byte)
  /-- Write of CONTROL with soft reset 0, for its command attention enable. -/
  | commandAttentionEnable (p : PortId) (v : Byte)
  /-- Write of CONTROL for its attention mode. -/
  | attentionMode (p : PortId) (v : Byte)
  /-- Write to PARAM0 to PARAM3 or COUNT. -/
  | parameterWrite (p : PortId) (pos : ParamPos) (v : Byte)
  /-- Reset of the whole part. -/
  | deviceReset
  /-- End of start-up. -/
  | endOfInitialization
  /-- Rising edge of FSYNC. -/
  | fsync
  /-- Arrival of one link byte; `stop` is the level sampled for its stop bit, false for a broken byte (R151). -/
  | byteArrival (b : Byte) (stop : Bool)
  /-- Expiry of the 2 ms gap timer. -/
  | gapTimerExpiry
  /-- Expiry of a port's 250 ms data-phase timer. -/
  | dataPhaseTimeout (p : PortId)
  /-- Expiry of a channel's rest timer. -/
  | restTimerExpiry (c : Chan)
  /-- End of the 2 µs attention pulse of a port. -/
  | pulseEnd (p : PortId)
  /-- Completion of a channel's search. -/
  | searchCompletion (c : Chan)
  /-- Start of a batch. -/
  | batchStart
  /-- Completion of a batch. -/
  | batchCompletion
  /-- Completion of an overlay build. -/
  | buildCompletion
  /-- A channel's search enters SEARCHING. -/
  | searchStart (c : Chan)
  /-- Beginning of a re-search of a channel. -/
  | reSearch (c : Chan)
  /-- Take of the head report of a channel's queue. -/
  | reportTake (c : Chan)
  /-- Offer of the head frame of the holding buffer. -/
  | frameOffer
deriving DecidableEq, Repr

end Sys2Proof
end

