-- ==== Sys2Proof/Machine/State.lean ====
section
/-! DEFINITION. The state of the VQ-420: everything the guide says a block holds, as plain data, and
the state after device reset. -/
namespace Sys2Proof.Machine

/-- What stops the block: nothing. The guide describes every fault as a fault code, a flag, an event or
a link state, after which the part goes on. -/
inductive Fault where
deriving DecidableEq, Repr

/-- Why the block gives a command no meaning. -/
inductive Refusal where
  /-- Raised by an arm of `exec` whose command has no meaning yet. Safe: the model stops. -/
  | notModelled (mnemonic : String)
  /-- Raised by UNKNOWN_COMMAND with a code that names a command: such a write is another row of the
  table (log 14). Safe: the model stops. -/
  | illFormed
deriving DecidableEq, Repr

/-! ## Points, views and the grid -/

/-- A drawing point (R1). -/
structure Point where
  x : Coord
  y : Coord
deriving DecidableEq, Repr

/-- A tablet point (R1). -/
structure TabletPoint where
  x : TabletCoord
  y : TabletCoord
deriving DecidableEq, Repr

/-- The view record and the view generation (R2). -/
structure View where
  ox : Coord
  oy : Coord
  n : Word
  shift : BitVec 4
  gen : Byte
deriving DecidableEq, Repr

/-- The grid record (R10). -/
structure Grid where
  present : Bool
  gx : Coord
  gy : Coord
  px : Coord
  py : Coord
deriving DecidableEq, Repr

/-! ## The Snap Candidate Table -/

/-- The snap kinds (R15). -/
inductive SnapKind where
  | endpoint
  | midpoint
  | center
  | quadrant
  | intersection
  | node
deriving DecidableEq, Repr

/-- The entry of a USED slot (R15). -/
structure Entry where
  handle : Word
  kind : SnapKind
  cls : BitVec 2
  layer : BitVec 4
  seats : PerChan Bool
  point : Point
deriving DecidableEq, Repr

/-- A capture window (R18). -/
inductive Window where
  | none
  | rect (xmin ymin xmax ymax : Coord)
deriving DecidableEq, Repr

/-- What an edit item does (R19); a REMOVE without a kind carries ANY. -/
inductive EditKind where
  | insert (e : Entry)
  | remove (handle : Word) (kind : Option SnapKind)
  | evict (c : Chan) (w : Window)
  | clear
deriving DecidableEq, Repr

/-- The command that contributed an item: the table command in progress, or one that a port soft
reset abandoned (R19, R38; log 12). -/
inductive ItemOwner where
  | inProgress
  | abandoned
deriving DecidableEq, Repr

/-- An edit item (R19). -/
structure EditItem where
  kind : EditKind
  owner : ItemOwner
deriving DecidableEq, Repr

/-- The table access states (R21); `opened` is OPEN. -/
inductive Access where
  | initializing
  | opened
  | draining
  | applying
deriving DecidableEq, Repr

/-- The Snap Table Controller (R15 to R22). -/
structure TableController where
  /-- The entries of the USED slots; every other slot of the 1024 is FREE (log 7). -/
  table : List Entry
  windows : PerChan Window
  /-- The edit queue, oldest first (R19). -/
  queue : List EditItem
  /-- The batch being applied, empty when none is (R22). -/
  batch : List EditItem
  /-- The reservation count (R20). -/
  reserved : Nat
  access : Access
  /-- The count of searches in flight (R21). -/
  inFlight : Nat
deriving DecidableEq, Repr

/-! ## Snap search -/

/-- The snap settings of a channel (R40); bit k − 1 of the kind mask enables kind k. -/
structure Settings where
  kinds : BitVec 6
  layers : Word
  radius : BitVec 10
  gridSnap : Bool
  ortho : Bool
  deadband : BitVec 4
deriving DecidableEq, Repr

/-- A hit: handle, snap kind and class of the entry snapped to (R53). -/
structure Hit where
  handle : Word
  kind : SnapKind
  cls : BitVec 2
deriving DecidableEq, Repr

/-- How a snapped point was obtained. -/
inductive ResultBasis where
  | free
  | grid
  | hit
deriving DecidableEq, Repr

/-- The presses: button 1, 2 and 3 (R78). -/
inductive Press where
  | pick
  | finish
  | cancel
deriving DecidableEq, Repr

/-- The basis of a search (R43). -/
inductive SearchBasis where
  /-- A report, with its tablet point and its presses in the order PICK, FINISH, CANCEL. -/
  | report (pt : TabletPoint) (presses : List Press)
  /-- A re-search, with the stored raw tablet point. -/
  | research (pt : TabletPoint)
deriving DecidableEq, Repr

/-- The staleness mark of a search (R43). -/
inductive Mark where
  | none
  | view
  | reset
deriving DecidableEq, Repr

/-- The fixed inputs of a search (R46). -/
structure Inputs where
  target : Point
  rc : Nat
  rr : Nat
  gen : Byte
  kinds : BitVec 6
  layers : Word
  gridSnap : Bool
  ortho : Bool
  grid : Grid
  orthoRef : Option Point
  /-- The previous hit, with the cursor record's snapped point as its point. -/
  prev : Option (Hit × Point)
deriving DecidableEq, Repr

/-- The search state of a Snap Search Unit with what it holds for its search (R43). -/
inductive Search where
  | quiet
  /-- `granted`: the table has been granted, or the search released, and the search is about to enter
  SEARCHING (log 3). -/
  | waiting (b : SearchBasis) (granted : Bool)
  | searching (b : SearchBasis) (mark : Mark) (inp : Inputs)
deriving DecidableEq, Repr

/-- The window zones (R49). -/
inductive Zone where
  | outside
  | margin
  | interior
deriving DecidableEq, Repr

/-- The written fields of a cursor record (R64). -/
structure CursorRecord where
  raw : TabletPoint
  target : Point
  snapped : Point
  basis : ResultBasis
  hit : Option Hit
  degraded : Bool
  orthoApplied : Bool
  hitLost : Bool
  gen : Byte
deriving DecidableEq, Repr

/-! ## Pointer Channels -/

/-- The channel states (R67). -/
inductive ChanState where
  | detached
  | tracking
  | resting
  | away
deriving DecidableEq, Repr

/-- What a frame or a report says (R70, R152): its kind, and its point and button bitmap if it has them. -/
inductive Message where
  | motion (pt : TabletPoint) (buttons : BitVec 3)
  | proxIn (pt : TabletPoint) (buttons : BitVec 3)
  | proxOut
deriving DecidableEq, Repr

/-- A report of a report queue, with its class fixed when it joined (R70, R72). -/
structure Report where
  msg : Message
  edge : Bool
deriving DecidableEq, Repr

/-- A rest timer (R79): its interval in seconds while RUNNING; the time left is not held (log 5). -/
inductive RestTimer where
  | stopped
  | running (seconds : Nat)
deriving DecidableEq, Repr

/-! ## Figure Sequencers -/

/-- The figure stages (R92). -/
inductive Stage where
  | idle
  | armed
  | banding
  | hold
  | stalled
deriving DecidableEq, Repr

/-- The templates (R89). -/
inductive Template where
  | none
  | line
  | rect
  | circle
  | arc3
  | polyline
deriving DecidableEq, Repr

/-- The completion actions (R90); `repeated` is REPEAT. -/
inductive Action where
  | hold
  | repeated
  | once
deriving DecidableEq, Repr

/-- The return stage of a STALLED sequencer (R88). -/
inductive ReturnStage where
  | armed
  | banding
deriving DecidableEq, Repr

/-- One seat: Pointer Channel (R66), Snap Search Unit (R43) and Figure Sequencer (R88). -/
structure Channel where
  state : ChanState
  /-- The report queue, oldest first (R71). -/
  queue : List Report
  raw : TabletPoint
  buttons : BitVec 3
  timer : RestTimer
  settings : Settings
  cursor : CursorRecord
  search : Search
  /-- The re-search flag (R45). -/
  flag : Bool
  zone : Zone
  stage : Stage
  template : Template
  target : Option Nat
  action : Option Action
  /-- The anchor list, in pick order (R91). -/
  anchors : List Point
  ret : Option ReturnStage
  saved : Option Press
deriving DecidableEq, Repr

/-! ## The Pick Queue -/

/-- The kinds of pick record (R113). -/
inductive RecordKind where
  | point
  | anchor
  | done
  | finish
  | cancelled
deriving DecidableEq, Repr

/-- A pick record (R113). -/
structure PickRecord where
  chan : Chan
  kind : RecordKind
  template : Template
  index : Nat
  snapped : Point
  raw : TabletPoint
  basis : ResultBasis
  hit : Option Hit
  frameNo : Word
  gen : Byte
deriving DecidableEq, Repr

/-- The Pick Queue (R114): its records, the head first, and its near-full threshold (R116). -/
structure PickQueue where
  records : List PickRecord
  threshold : BitVec 5
deriving DecidableEq, Repr

/-! ## The Overlay Builder -/

/-- Crosshair forms (R130). -/
inductive CrosshairForm where
  | full
  | arms
deriving DecidableEq, Repr

/-- Line and band patterns (R129, R130). -/
inductive Pattern where
  | solid
  | dashed
deriving DecidableEq, Repr

/-- The style settings (R130). -/
structure Style where
  form : CrosshairForm
  ticks : Bool
  band : Pattern
deriving DecidableEq, Repr

/-- A stroke's kind with its points and its style or snap kind (R129). -/
inductive Shape where
  | crosshair (centre : Point) (form : CrosshairForm)
  | marker (p : Point) (kind : SnapKind)
  | segment (a b : Point) (pat : Pattern)
  | rectangle (a b : Point) (pat : Pattern)
  | circle (centre rim : Point) (pat : Pattern)
  | arc (a b c : Point) (pat : Pattern)
  | tick (p : Point)
deriving DecidableEq, Repr

/-- A stroke record (R129). -/
structure Stroke where
  shape : Shape
  chan : Chan
  live : Bool
deriving DecidableEq, Repr

/-- A finished overlay frame: header and strokes (R128). -/
structure Frame where
  number : Word
  gen : Byte
  truncated : Bool
  blank : PerChan Bool
  strokes : List Stroke
deriving DecidableEq, Repr

/-- The snapshot of one channel (R131), with the target count, which R88 has copied too. -/
structure ChanSnapshot where
  state : ChanState
  snapped : Point
  hitKind : Option SnapKind
  stage : Stage
  template : Template
  target : Option Nat
  anchors : List Point
  ret : Option ReturnStage
deriving DecidableEq, Repr

/-- What a build copies at its start (R131). -/
structure Snapshot where
  number : Word
  gen : Byte
  style : Style
  chans : PerChan ChanSnapshot
deriving DecidableEq, Repr

/-- An overlay buffer: its state, and the snapshot it is built from or the frame it holds (R127). -/
inductive Buffer where
  | free
  | building (snap : Snapshot)
  | ready (f : Frame)
  | front (f : Frame)
  | frontPinned (f : Frame)
deriving DecidableEq, Repr

/-- The Overlay Builder (R126). -/
structure Overlay where
  bufX : Buffer
  bufY : Buffer
  swapPending : Bool
  frameNo : Word
  style : Style
deriving DecidableEq, Repr

/-! ## The Link Receiver -/

/-- The link states (R156). -/
inductive LinkState where
  | idle
  | run
  | overrun
deriving DecidableEq, Repr

/-- The frame assembler; in IN_FRAME it holds the bytes received after the start byte (R153). -/
inductive Assembler where
  | hunt
  | inFrame (bytes : List Byte)
deriving DecidableEq, Repr

/-- A frame of the holding buffer, with the channel fixed at its match (R159). -/
structure HeldFrame where
  chan : Chan
  msg : Message
deriving DecidableEq, Repr

/-- A channel's station address and mask (R157). -/
structure Station where
  address : BitVec 7
  mask : BitVec 7
deriving DecidableEq, Repr

/-- The Link Receiver (R151 to R162). -/
structure Link where
  state : LinkState
  assembler : Assembler
  /-- The holding buffer, head first (R159). -/
  holding : List HeldFrame
  stations : PerChan Station
  /-- The level of HOLD, true when asserted (R162). -/
  hold : Bool
deriving DecidableEq, Repr

/-! ## Command Block Ports and the Event Unit -/

/-- The five shared positions of a window (R166), or a copy of them. -/
structure ParamBlock where
  p0 : Byte
  p1 : Byte
  p2 : Byte
  p3 : Byte
  count : Byte
deriving DecidableEq, Repr

/-- The port states (R167). BUSY with no command in progress is start-up. -/
inductive PortMode where
  | ready
  | busy
  | dataIn
  | dataOut
  | resetHeld
deriving DecidableEq, Repr

/-- The fault codes (R171). -/
inductive FaultCode where
  | none
  | unknown
  | role
  | param
  | record
  | full
  | stage
  | timeout
deriving DecidableEq, Repr

/-- What a table command has been credited with (R26 to R29). -/
structure TableCounts where
  added : Nat
  merged : Nat
  outside : Nat
  removed : Nat
  freed : Nat
  cleared : Nat
deriving DecidableEq, Repr

/-- A command in progress and the progress of its data phase (R166, R167, R173). -/
structure Progress where
  op : Command
  /-- The copy of the input parameters (R166). -/
  input : ParamBlock
  /-- Records the command is to move, COUNT 0 taken as 256. -/
  total : Nat
  /-- Records whose last word was moved; for a table command, those that became items (R34). -/
  moved : Nat
  /-- Data-in: the words of the current record that have arrived, oldest first. Data-out: the words
  of the current record that have not been read, the presented one first. -/
  words : List Word
  /-- Records into the current burst (R175). -/
  burstPos : Nat
  counts : TableCounts
  /-- The fault that ended the data phase, reported at completion (R32). -/
  ended : FaultCode
  /-- A CLEAR item waits outside the edit queue (R37). -/
  clearWaiting : Bool
  /-- Frame number and stroke count of the frame a FETCH OVERLAY reads (R147). -/
  frameNo : Word
  strokes : Nat
deriving DecidableEq, Repr

/-- The attention modes (R178). -/
inductive AttnMode where
  | level
  | edge
deriving DecidableEq, Repr

/-- The states of an attention output (R190); in LEVEL mode only OFF and ON are used. -/
inductive AttnOut where
  | off
  | on
  | pulsing
deriving DecidableEq, Repr

/-- A Command Block Port (R166 to R178) with its part of the Event Unit (R184 to R190). -/
structure PortState where
  window : ParamBlock
  state : PortMode
  fault : FaultCode
  done : Bool
  collide : Bool
  /-- DREQ; the data-phase timer runs while it is set (R173, R177). -/
  dreq : Bool
  cmd : Option Progress
  burst : BitVec 6
  burstAttn : Bool
  attnEnable : Bool
  mode : AttnMode
  latched : EventSet
  mask : EventSet
  attn : AttnOut
  /-- The value the last read returned on the data lines; the model's own (log 6). -/
  readData : Word
deriving DecidableEq, Repr

/-- The state of the part, and the commands that wait. -/
structure State where
  ports : PerPort PortState
  chans : PerChan Channel
  stc : TableController
  view : View
  grid : Grid
  picks : PickQueue
  overlay : Overlay
  link : Link
  /-- The rest parameter p (R79). -/
  rest : Byte
  /-- The raw condition of PICK_AVAILABLE (R185). -/
  pickRaw : Bool
  /-- The commands that wait, first in, first out; the model's own (log 1). -/
  pending : List Instr
deriving DecidableEq, Repr

/-! ## Device reset -/

/-- Five positions of 0 (R166). -/
def ParamBlock.zero : ParamBlock := { p0 := 0, p1 := 0, p2 := 0, p3 := 0, count := 0 }

/-- A port at the start of start-up (R181, R178, R184, R188, R191, R192). -/
def PortState.reset : PortState where
  window := .zero
  state := .busy
  fault := .none
  done := false
  collide := false
  dreq := false
  cmd := .none
  burst := 1
  burstAttn := false
  attnEnable := false
  mode := .level
  latched := 0
  mask := 0
  attn := .off
  readData := 0

/-- The cleared written fields of a cursor record (R64). -/
def CursorRecord.reset : CursorRecord where
  raw := ⟨0, 0⟩
  target := ⟨0, 0⟩
  snapped := ⟨0, 0⟩
  basis := .free
  hit := .none
  degraded := false
  orthoApplied := false
  hitLost := false
  gen := 0

/-- The snap settings after device reset (R40). -/
def Settings.reset : Settings where
  kinds := 0x3F
  layers := 0xFFFF
  radius := 40
  gridSnap := false
  ortho := false
  deadband := 2

/-- A channel after device reset (R43, R64, R66, R88). -/
def Channel.reset : Channel where
  state := .detached
  queue := []
  raw := ⟨0, 0⟩
  buttons := 0
  timer := .stopped
  settings := .reset
  cursor := .reset
  search := .quiet
  flag := false
  zone := .outside
  stage := .idle
  template := .none
  target := .none
  action := .none
  anchors := []
  ret := .none
  saved := .none

/-- The Snap Table Controller after device reset (R15, R20, R39; log 8). -/
def TableController.reset : TableController where
  table := []
  windows := ⟨.none, .none⟩
  queue := []
  batch := []
  reserved := 0
  access := .initializing
  inFlight := 0

/-- The Overlay Builder after device reset (R126, R150). -/
def Overlay.reset : Overlay where
  bufX := .free
  bufY := .free
  swapPending := false
  frameNo := 0
  style := { form := .full, ticks := true, band := .dashed }

/-- The Link Receiver after device reset (R157, R165). -/
def Link.reset : Link where
  state := .idle
  assembler := .hunt
  holding := []
  stations := ⟨{ address := 1, mask := 0 }, { address := 2, mask := 0 }⟩
  hold := false

/-- The grid record with no grid (R10, R11). -/
def Grid.absent : Grid := { present := false, gx := 0, gy := 0, px := 1, py := 1 }

/-- The part right after device reset, with nothing waiting. -/
def State.reset : State where
  ports := ⟨.reset, .reset⟩
  chans := ⟨.reset, .reset⟩
  stc := .reset
  view := { ox := 0, oy := 0, n := 1, shift := 0, gen := 0 }
  grid := .absent
  picks := { records := [], threshold := 24 }
  overlay := .reset
  link := .reset
  rest := 0
  pickRaw := false
  pending := []

end Sys2Proof.Machine
end

