-- ==== Sys2Proof/Machine/Access.lean ====
section
/-! DEFINITION. The one way to read and to replace the state of a port or of a channel. -/
namespace Sys2Proof.Machine

/-- The state of port `p`. -/
def State.port (s : State) (p : PortId) : PortState := s.ports.get p

/-- Replace the state of port `p`. -/
def State.setPort (s : State) (p : PortId) (v : PortState) : State :=
  { s with ports := s.ports.set p v }

/-- Change the state of port `p`. -/
def State.updPort (s : State) (p : PortId) (f : PortState → PortState) : State :=
  s.setPort p (f (s.port p))

/-- The state of channel `c`. -/
def State.chan (s : State) (c : Chan) : Channel := s.chans.get c

/-- Replace the state of channel `c`. -/
def State.setChan (s : State) (c : Chan) (v : Channel) : State :=
  { s with chans := s.chans.set c v }

/-- Change the state of channel `c`. -/
def State.updChan (s : State) (c : Chan) (f : Channel → Channel) : State :=
  s.setChan c (f (s.chan c))

end Sys2Proof.Machine
end

