-- ==== Sys2Proof/Decode.lean ====
section
/-! DEFINITION. The command codes of R195 and the decoder of table words. The table of this block
gives no row any bits, so `decodeTableWord` answers none. -/
namespace Sys2Proof

/-- Every command of the command table, in its order (R195). -/
def Command.all : List Command :=
  [.loadCandidates, .removeCandidates, .setWindow, .clearTable, .setGrid, .setSnap, .setRest,
   .resetChannel, .readCursor, .armFigure, .cancelFigure, .releaseFigure, .clearStall] ++
  [.readPicks, .flushPicks, .setPickThreshold, .setStation, .clearLink, .setView, .setStyle,
   .fetchOverlay, .readEvents, .clearEvents, .setEventMask, .setBurst, .identify]

/-- The code of a command (R195, command table). -/
def Command.code : Command → Byte
  | .loadCandidates => 0x10
  | .removeCandidates => 0x11
  | .setWindow => 0x12
  | .clearTable => 0x13
  | .setGrid => 0x18
  | .setSnap => 0x19
  | .setRest => 0x1A
  | .resetChannel => 0x20
  | .readCursor => 0x21
  | .armFigure => 0x28
  | .cancelFigure => 0x29
  | .releaseFigure => 0x2A
  | .clearStall => 0x2B
  | .readPicks => 0x30
  | .flushPicks => 0x31
  | .setPickThreshold => 0x32
  | .setStation => 0x38
  | .clearLink => 0x39
  | .setView => 0x40
  | .setStyle => 0x41
  | .fetchOverlay => 0x42
  | .readEvents => 0x50
  | .clearEvents => 0x51
  | .setEventMask => 0x52
  | .setBurst => 0x58
  | .identify => 0x5F

/-- The command a code names; every other code names none (R170, R195). -/
def commandOfCode (code : Byte) : Option Command :=
  Command.all.find? fun c => c.code == code

/-- The row that a write of a command code to COMMAND of port `p` stands for (R170). -/
def rowOfCode (p : PortId) (code : Byte) : Instr :=
  match commandOfCode code with
  | some .loadCandidates => .loadCandidates p
  | some .removeCandidates => .removeCandidates p
  | some .setWindow => .setWindow p
  | some .clearTable => .clearTable p
  | some .setGrid => .setGrid p
  | some .setSnap => .setSnap p
  | some .setRest => .setRest p
  | some .resetChannel => .resetChannel p
  | some .readCursor => .readCursor p
  | some .armFigure => .armFigure p
  | some .cancelFigure => .cancelFigure p
  | some .releaseFigure => .releaseFigure p
  | some .clearStall => .clearStall p
  | some .readPicks => .readPicks p
  | some .flushPicks => .flushPicks p
  | some .setPickThreshold => .setPickThreshold p
  | some .setStation => .setStation p
  | some .clearLink => .clearLink p
  | some .setView => .setView p
  | some .setStyle => .setStyle p
  | some .fetchOverlay => .fetchOverlay p
  | some .readEvents => .readEvents p
  | some .clearEvents => .clearEvents p
  | some .setEventMask => .setEventMask p
  | some .setBurst => .setBurst p
  | some .identify => .identify p
  | none => .unknownCommand p code

/-- The row that a write of a byte to CONTROL stands for: by its soft reset field (R178, R194). The four
rows that write CONTROL act alike on one byte (log 13). -/
def controlRow (p : PortId) (v : Byte) : Instr :=
  if v.getLsbD 0 then .portSoftReset p v else .softResetRelease p v

/-- The row that a write of a port stands for, by its address and the sixteen data lines: PARAM0 to
PARAM3, COUNT, COMMAND and CONTROL take the low eight lines, DATA takes all (R194). -/
def writeRow (p : PortId) (address : BitVec 3) (lines : Word) : Instr :=
  let v : Byte := lines.setWidth 8
  match address.toNat with
  | 0 => .parameterWrite p .param0 v
  | 1 => .parameterWrite p .param1 v
  | 2 => .parameterWrite p .param2 v
  | 3 => .parameterWrite p .param3 v
  | 4 => .parameterWrite p .count v
  | 5 => rowOfCode p v
  | 6 => controlRow p v
  | _ => .dataWrite p lines

/-- The command that a word spells by the table's bits: no row of the table has bits. -/
def decodeTableWord (_nbits _w : Nat) : Option Instr := none

end Sys2Proof
end

