-- ==== Sys2Proof/Machine/Operands.lean ====
section
/-! DEFINITION. The operand forms: codes of named values (R193), parameter bytes (R195), the records a
master writes (R197), the records it reads (R198), event sets (R196) and the link frame (R152, R199). -/
namespace Sys2Proof.Machine

/-! ## Codes of named values (R193) -/

def SnapKind.code : SnapKind → Nat
  | .endpoint => 1
  | .midpoint => 2
  | .center => 3
  | .quadrant => 4
  | .intersection => 5
  | .node => 6

/-- The snap kind of a code; codes outside 1 to 6 name none. -/
def SnapKind.ofCode (n : Nat) : Option SnapKind :=
  [SnapKind.endpoint, .midpoint, .center, .quadrant, .intersection, .node].find? fun k => k.code == n

def ChanState.code : ChanState → Nat
  | .detached => 0
  | .tracking => 1
  | .resting => 2
  | .away => 3

def Stage.code : Stage → Nat
  | .idle => 0
  | .armed => 1
  | .banding => 2
  | .hold => 3
  | .stalled => 4

def Search.code : Search → Nat
  | .quiet => 0
  | .waiting _ _ => 1
  | .searching _ _ _ => 2

def Template.code : Template → Nat
  | .none => 0
  | .line => 1
  | .rect => 2
  | .circle => 3
  | .arc3 => 4
  | .polyline => 5

def Template.ofCode (n : Nat) : Option Template :=
  [Template.none, .line, .rect, .circle, .arc3, .polyline].find? fun k => k.code == n

def Action.code : Action → Nat
  | .hold => 1
  | .repeated => 2
  | .once => 3

def Action.ofCode (n : Nat) : Option Action :=
  [Action.hold, .repeated, .once].find? fun k => k.code == n

def ResultBasis.code : ResultBasis → Nat
  | .free => 0
  | .grid => 1
  | .hit => 2

def RecordKind.code : RecordKind → Nat
  | .point => 0
  | .anchor => 1
  | .done => 2
  | .finish => 3
  | .cancelled => 4

def Press.code : Press → Nat
  | .pick => 1
  | .finish => 2
  | .cancel => 3

def LinkState.code : LinkState → Nat
  | .idle => 0
  | .run => 1
  | .overrun => 2

def CrosshairForm.code : CrosshairForm → Nat
  | .full => 0
  | .arms => 1

def CrosshairForm.ofCode (n : Nat) : Option CrosshairForm :=
  [CrosshairForm.full, .arms].find? fun k => k.code == n

def Pattern.code : Pattern → Nat
  | .solid => 0
  | .dashed => 1

def Pattern.ofCode (n : Nat) : Option Pattern :=
  [Pattern.solid, .dashed].find? fun k => k.code == n

/-- The role of a port: application 1, display 2. -/
def roleCode : PortId → Nat
  | .a => 1
  | .b => 2

def FaultCode.code : FaultCode → Nat
  | .none => 0
  | .unknown => 1
  | .role => 2
  | .param => 3
  | .record => 4
  | .full => 5
  | .stage => 6
  | .timeout => 7

def chanCode : Chan → Nat
  | .c0 => 0
  | .c1 => 1

/-- A channel parameter: values other than 0 and 1 name no channel (R195). -/
def chanOfByte (b : Byte) : Option Chan :=
  if b = 0 then some .c0 else if b = 1 then some .c1 else none

/-! ## Fields and numbers -/

/-- The low eight bits of a count, as an output parameter (R195). -/
def lowByte (n : Nat) : Byte := BitVec.ofNat 8 n

/-- The second byte of a count, as an output parameter (R195). -/
def highByte (n : Nat) : Byte := BitVec.ofNat 8 (n / 256)

/-- The ninth bit of a count (R195). -/
def ninthBit (n : Nat) : Nat := n / 256 % 2

/-- One bit as a number. -/
def bit (b : Bool) : Nat := if b then 1 else 0

/-- The field of `len` bits of a word that begins at bit `lo`. -/
def field (w : Word) (lo len : Nat) : Nat := w.toNat / 2 ^ lo % 2 ^ len

/-- A word from the sum of its fields. -/
def wordOf (n : Nat) : Word := BitVec.ofNat 16 n

/-- A 32-bit value from its two words, low word first (R173, R193). -/
def coordOfWords (lo hi : Word) : Coord := BitVec.ofNat 32 (lo.toNat + 65536 * hi.toNat)

/-- The two words of a 32-bit value, low word first. -/
def Coord.toWords (c : Coord) : List Word := [wordOf c.toNat, wordOf (c.toNat / 65536)]

/-- The four words of a drawing point, x first. -/
def Point.toWords (p : Point) : List Word := Coord.toWords p.x ++ Coord.toWords p.y

/-- The word of a tablet coordinate (R193). -/
def tabletWord (t : TabletCoord) : Word := wordOf t.toNat

/-! ## Parameter bytes (R195) -/

/-- The number of records of a command that takes it from COUNT, 0 meaning 256 (R173). -/
def ParamBlock.records (b : ParamBlock) : Nat := if b.count = 0 then 256 else b.count.toNat

/-- The event set of PARAM0, PARAM1 and PARAM2 (R196). -/
def ParamBlock.events (b : ParamBlock) : EventSet :=
  BitVec.ofNat 24 (b.p0.toNat + 256 * b.p1.toNat + 65536 * b.p2.toNat)

/-- An event set in PARAM0, PARAM1 and PARAM2, with `p3` in PARAM3 (R196). -/
def eventOutputs (e : EventSet) (p3 : Byte) : ParamBlock where
  p0 := lowByte e.toNat
  p1 := lowByte (e.toNat / 256)
  p2 := lowByte (e.toNat / 65536)
  p3 := p3
  count := 0

/-- The reserved positions of an event set: bit 7 of PARAM0 and of PARAM1 (R196). -/
def reservedEvents : EventSet := 0x008080

/-- No reserved position is set. -/
def ParamBlock.eventsOk (b : ParamBlock) : Bool := (b.events &&& reservedEvents) == 0

/-- The commands that name a channel in PARAM0 (command table). -/
def namesChannel : Command → Bool
  | .setWindow | .setSnap | .resetChannel | .readCursor | .armFigure | .cancelFigure
  | .releaseFigure | .clearStall | .setStation => true
  | .loadCandidates | .removeCandidates | .clearTable | .setGrid | .setRest | .readPicks
  | .flushPicks | .setPickThreshold | .clearLink | .setView | .setStyle | .fetchOverlay
  | .readEvents | .clearEvents | .setEventMask | .setBurst | .identify => false

/-- The number of PARAM positions, from PARAM0 on, that a command uses; the others are reserved. -/
def usedParams : Command → Nat
  | .armFigure => 4
  | .setStation | .setStyle | .clearEvents | .setEventMask => 3
  | .releaseFigure => 2
  | .setWindow | .setSnap | .setRest | .resetChannel | .readCursor | .cancelFigure | .clearStall
  | .setPickThreshold | .setBurst => 1
  | .loadCandidates | .removeCandidates | .clearTable | .setGrid | .readPicks | .flushPicks
  | .clearLink | .setView | .fetchOverlay | .readEvents | .identify => 0

/-- Every reserved parameter byte is 0. COUNT is never checked (R170, R195). -/
def reservedOk (used : Nat) (b : ParamBlock) : Bool :=
  (used ≥ 1 || b.p0 == 0) && (used ≥ 2 || b.p1 == 0) && (used ≥ 3 || b.p2 == 0) &&
    (used ≥ 4 || b.p3 == 0)

/-- ARM FIGURE's own checks: template, target count of a POLYLINE, completion action (R108). -/
def armOk (b : ParamBlock) : Bool :=
  match Template.ofCode b.p1.toNat with
  | none => false
  | some .none => true
  | some .polyline =>
    (2 ≤ b.p2.toNat && b.p2.toNat ≤ 16) && (Action.ofCode b.p3.toNat).isSome
  | some _ => (Action.ofCode b.p3.toNat).isSome

/-- A command's own parameter checks, after the channel and the reserved bytes (R195). -/
def ownChecksOk (c : Command) (b : ParamBlock) : Bool :=
  match c with
  | .armFigure => armOk b
  | .releaseFigure => b.p1.toNat ≤ 1
  | .setPickThreshold => 1 ≤ b.p0.toNat && b.p0.toNat ≤ 31
  | .setStation => 1 ≤ b.p1.toNat && b.p1.toNat ≤ 127 && b.p2.toNat ≤ 127
  | .setStyle =>
    (CrosshairForm.ofCode b.p0.toNat).isSome && b.p1.toNat ≤ 1 && (Pattern.ofCode b.p2.toNat).isSome
  | .clearEvents | .setEventMask => b.eventsOk
  | .setBurst => 1 ≤ b.p0.toNat && b.p0.toNat ≤ 32
  | .loadCandidates | .removeCandidates | .setWindow | .clearTable | .setGrid | .setSnap | .setRest
  | .resetChannel | .readCursor | .cancelFigure | .clearStall | .readPicks | .flushPicks
  | .clearLink | .setView | .fetchOverlay | .readEvents | .identify => true

/-- The parameters pass every check that gives PARAM at acceptance (R195). -/
def paramsOk (c : Command) (b : ParamBlock) : Bool :=
  (!namesChannel c || (chanOfByte b.p0).isSome) && reservedOk (usedParams c) b && ownChecksOk c b

/-- The ports whose role holds a command (R171). -/
def inRole : Command → PortId → Bool
  | .setView, p | .setStyle, p | .fetchOverlay, p => p == .b
  | .readCursor, _ | .readEvents, _ | .clearEvents, _ | .setEventMask, _ | .setBurst, _
  | .identify, _ => true
  | .loadCandidates, p | .removeCandidates, p | .setWindow, p | .clearTable, p | .setGrid, p
  | .setSnap, p | .setRest, p | .resetChannel, p | .armFigure, p | .cancelFigure, p
  | .releaseFigure, p | .clearStall, p | .readPicks, p | .flushPicks, p | .setPickThreshold, p
  | .setStation, p | .clearLink, p => p == .a

/-! ## Records written by a master (R197) -/

/-- Words of one data-in record of a command; 0 for a command without a data-in phase. -/
def recordWords : Command → Nat
  | .loadCandidates => 7
  | .removeCandidates => 2
  | .setWindow => 9
  | .setView => 6
  | .setGrid => 9
  | .setSnap => 4
  | .clearTable | .setRest | .resetChannel | .readCursor | .armFigure | .cancelFigure
  | .releaseFigure | .clearStall | .readPicks | .flushPicks | .setPickThreshold | .setStation
  | .clearLink | .setStyle | .fetchOverlay | .readEvents | .clearEvents | .setEventMask
  | .setBurst | .identify => 0

/-- An entry record; none where it fails validation (R33). -/
def parseEntry : List Word → Option Entry
  | [w0, w1, w2, xl, xh, yl, yh] =>
    match SnapKind.ofCode (field w1 0 4) with
    | none => none
    | some k =>
      if field w1 6 2 = 0 ∧ field w1 8 8 ≤ 15 ∧ field w2 0 2 ≠ 0 ∧ field w2 2 14 = 0 then
        some { handle := w0, kind := k, cls := BitVec.ofNat 2 (field w1 4 2),
               layer := BitVec.ofNat 4 (field w1 8 8),
               seats := ⟨field w2 0 1 == 1, field w2 1 1 == 1⟩,
               point := ⟨coordOfWords xl xh, coordOfWords yl yh⟩ }
      else none
  | _ => none

/-- A removal record: handle, and kind or none for ANY (R35). -/
def parseRemoval : List Word → Option (Word × Option SnapKind)
  | [w0, w1] =>
    if field w1 4 12 ≠ 0 then none
    else if field w1 0 4 = 15 then some (w0, none)
    else (SnapKind.ofCode (field w1 0 4)).map fun k => (w0, some k)
  | _ => none

/-- A window record (R36). -/
def parseWindow : List Word → Option Window
  | [w0, x0l, x0h, y0l, y0h, x1l, x1h, y1l, y1h] =>
    if field w0 1 15 ≠ 0 then none
    else if field w0 0 1 = 1 then some .none
    else
      let xmin := coordOfWords x0l x0h
      let ymin := coordOfWords y0l y0h
      let xmax := coordOfWords x1l x1h
      let ymax := coordOfWords y1l y1h
      if xmin.toInt > xmax.toInt ∨ ymin.toInt > ymax.toInt then none
      else some (.rect xmin ymin xmax ymax)
  | _ => none

/-- The addend of the far corner, floor(32767·N / 2^S) (R4). -/
def farAddend (n : Word) (shift : Nat) : Nat := 32767 * n.toNat / 2 ^ shift

/-- A view record: origin, numerator and shift, or none where R4 or a reserved bit refuses it. -/
def parseView : List Word → Option (Coord × Coord × Word × BitVec 4)
  | [xl, xh, yl, yh, n, w5] =>
    let ox := coordOfWords xl xh
    let oy := coordOfWords yl yh
    let s := field w5 0 8
    if field w5 8 8 ≠ 0 ∨ n = 0 ∨ s > 15 then none
    else if ox.toInt + farAddend n s > 2147483647 ∨ oy.toInt + farAddend n s > 2147483647 then none
    else some (ox, oy, n, BitVec.ofNat 4 s)
  | _ => none

/-- A pitch from 1 to 16777216 (R10). -/
def pitchOk (p : Coord) : Bool := decide (1 ≤ p.toInt) && decide (p.toInt ≤ 16777216)

/-- A grid record; with the present flag clear the grid is removed (R11). -/
def parseGrid : List Word → Option Grid
  | [w0, gxl, gxh, gyl, gyh, pxl, pxh, pyl, pyh] =>
    if field w0 1 15 ≠ 0 then none
    else if field w0 0 1 = 0 then some .absent
    else
      let px := coordOfWords pxl pxh
      let py := coordOfWords pyl pyh
      if pitchOk px && pitchOk py then
        some { present := true, gx := coordOfWords gxl gxh, gy := coordOfWords gyl gyh,
               px := px, py := py }
      else none
  | _ => none

/-- A settings record (R41). -/
def parseSettings : List Word → Option Settings
  | [w0, w1, w2, w3] =>
    if field w0 6 10 = 0 ∧ 1 ≤ w2.toNat ∧ w2.toNat ≤ 1023 ∧ field w3 0 8 ≤ 15 ∧ field w3 10 6 = 0
    then
      some { kinds := BitVec.ofNat 6 (field w0 0 6), layers := w1,
             radius := BitVec.ofNat 10 w2.toNat, gridSnap := field w3 8 1 == 1,
             ortho := field w3 9 1 == 1, deadband := BitVec.ofNat 4 (field w3 0 8) }
    else none
  | _ => none

/-! ## Records read by a master (R198) -/

/-- The handle word of an optional hit; 0 when absent. -/
def hitHandleWord : Option Hit → Word
  | none => 0
  | some h => h.handle

/-- The word of an optional hit's snap kind and class; 0 when absent. -/
def hitKindWord : Option Hit → Word
  | none => 0
  | some h => wordOf (h.kind.code + 16 * h.cls.toNat)

/-- The cursor record of a channel, live and written fields, 15 words (R64, R85, R198). -/
def Channel.cursorWords (ch : Channel) : List Word :=
  let r := ch.cursor
  [wordOf (ch.state.code + 16 * ch.stage.code + 256 * ch.search.code + 4096 * ch.template.code),
   wordOf (ch.anchors.length + 256 * ch.target.getD 0),
   tabletWord r.raw.x, tabletWord r.raw.y] ++ r.target.toWords ++ r.snapped.toWords ++
  [wordOf (r.basis.code + 4 * bit r.hit.isSome + 8 * bit r.degraded + 16 * bit r.orthoApplied +
      32 * bit r.hitLost + 256 * r.gen.toNat),
   hitHandleWord r.hit, hitKindWord r.hit]

/-- A pick record, 11 words (R198). -/
def PickRecord.toWords (r : PickRecord) : List Word :=
  [wordOf (chanCode r.chan + 2 * r.kind.code + 16 * r.template.code + 256 * r.index),
   tabletWord r.raw.x, tabletWord r.raw.y] ++ r.snapped.toWords ++
  [wordOf (r.basis.code + 4 * bit r.hit.isSome + 256 * r.gen.toNat),
   hitHandleWord r.hit, hitKindWord r.hit, r.frameNo]

/-- An overlay header, 3 words (R128, R198). -/
def headerWords (number : Word) (gen : Byte) (strokes : Nat) (truncated : Bool)
    (blank : PerChan Bool) (empty : Bool) : List Word :=
  [number, wordOf (gen.toNat + 256 * strokes),
   wordOf (bit truncated + 2 * bit blank.ch0 + 4 * bit blank.ch1 + 8 * bit empty)]

/-- The header of a built frame, EMPTY clear. -/
def Frame.header (f : Frame) : List Word :=
  headerWords f.number f.gen f.strokes.length f.truncated f.blank false

/-- The stroke kind code (R193). -/
def Shape.code : Shape → Nat
  | .crosshair _ _ => 1
  | .marker _ _ => 2
  | .segment _ _ _ => 3
  | .rectangle _ _ _ => 4
  | .circle _ _ _ => 5
  | .arc _ _ _ _ => 6
  | .tick _ => 7

/-- The style field of a stroke (R198). -/
def Shape.styleCode : Shape → Nat
  | .crosshair _ f => f.code
  | .segment _ _ p | .rectangle _ _ p | .circle _ _ p | .arc _ _ _ p => p.code
  | .marker _ _ | .tick _ => 0

/-- The snap kind field of a stroke, for a MARKER only (R198). -/
def Shape.kindCode : Shape → Nat
  | .marker _ k => k.code
  | .crosshair _ _ | .segment _ _ _ | .rectangle _ _ _ | .circle _ _ _ | .arc _ _ _ _ | .tick _ => 0

/-- The points of a stroke, P1 first (R198). -/
def Shape.points : Shape → List Point
  | .crosshair c _ => [c]
  | .marker p _ => [p]
  | .segment a b _ => [a, b]
  | .rectangle a b _ => [a, b]
  | .circle c r _ => [c, r]
  | .arc a b c _ => [a, b, c]
  | .tick p => [p]

/-- Point slots P1 to P3, unused slots 0 (R198). -/
def pointSlots : List Point → List Word
  | [a] => a.toWords ++ [0, 0, 0, 0, 0, 0, 0, 0]
  | [a, b] => a.toWords ++ b.toWords ++ [0, 0, 0, 0]
  | [a, b, c] => a.toWords ++ b.toWords ++ c.toWords
  | _ => [0, 0, 0, 0, 0, 0, 0, 0, 0, 0, 0, 0]

/-- A stroke record, 13 words (R198). -/
def Stroke.toWords (k : Stroke) : List Word :=
  wordOf (k.shape.code + 16 * chanCode k.chan + 32 * bit k.live + 64 * k.shape.styleCode +
    256 * k.shape.kindCode) :: pointSlots k.shape.points

/-- Record `i` of a frame: the header, then each stroke in order (R147). -/
def Frame.record (f : Frame) : Nat → List Word
  | 0 => f.header
  | i + 1 => (f.strokes[i]?.map Stroke.toWords).getD []

/-- The identity block a port reads, 16 words (R182, R198). -/
def identityWords (p : PortId) : List Word :=
  [Config.partCode, Config.revisionCode, wordOf Config.tableSlots, wordOf Config.editQueueItems,
   wordOf Config.pickQueueRecords, wordOf Config.reportQueueReports,
   wordOf Config.anchorListPoints, wordOf Config.frameStrokes, wordOf Config.holdingFrames,
   wordOf (roleCode p), 0, 0, 0, 0, 0, 0]

/-! ## The link frame (R152, R199) -/

/-- The bytes of a frame after its start byte, by its kind; none for an unknown kind. -/
def frameLength (kind : Byte) : Option Nat :=
  if kind = 1 ∨ kind = 2 then some 8 else if kind = 3 then some 3 else none

/-- A link coordinate from its low and high byte; none above 32767 (R199). -/
def linkCoord (lo hi : Byte) : Option TabletCoord :=
  let v := lo.toNat + 256 * hi.toNat
  if v ≤ 32767 then some (BitVec.ofNat 15 v) else none

/-- The sum that a correct checksum makes 0 modulo 256 (R152). -/
def frameSum (bytes : List Byte) : Byte := bytes.foldl (· + ·) 0

/-- A completed frame, its bytes after the start byte: its address and message if it is good (R152, R155). -/
def goodFrame (bytes : List Byte) : Option (Byte × Message) :=
  if frameSum bytes ≠ 0 then none
  else
    match bytes with
    | [addr, kind, _] => if kind = 3 then some (addr, .proxOut) else none
    | [addr, kind, xl, xh, yl, yh, btn, _] =>
      match linkCoord xl xh, linkCoord yl yh with
      | some x, some y =>
        if btn.toNat > 7 then none
        else if kind = 1 then some (addr, .motion ⟨x, y⟩ (BitVec.ofNat 3 btn.toNat))
        else if kind = 2 then some (addr, .proxIn ⟨x, y⟩ (BitVec.ofNat 3 btn.toNat))
        else none
      | _, _ => none
    | _ => none

end Sys2Proof.Machine
end

