-- ==== Sys2Proof/Machine/Flags.lean ====
section
/-! DEFINITION. The flag computations: raising and latching events (R183 to R185), the grounds for
attention and the attention outputs (R189 to R191), the STATUS indications (R168), and HOLD (R162). -/
namespace Sys2Proof.Machine

/-- The 22 events (R196). -/
inductive Event where
  | hitChanged (c : Chan)
  | stageChanged (c : Chan)
  | seqError (c : Chan)
  | windowNear (c : Chan)
  | windowExit (c : Chan)
  | channelState (c : Chan)
  | pressDiscarded (c : Chan)
  | pickAvailable
  | pickNearFull
  | pickRefused
  | linkError
  | linkOverrun
  | frameRepeat
  | frameTruncated
  | viewChanged
deriving DecidableEq, Repr

/-- The first position of a channel's events: PARAM0 for channel 0, PARAM1 for channel 1 (R196). -/
def chanEvents : Chan → Nat
  | .c0 => 0
  | .c1 => 8

/-- The position of an event in an event set (R196). -/
def Event.pos : Event → Nat
  | .hitChanged c => chanEvents c
  | .stageChanged c => chanEvents c + 1
  | .seqError c => chanEvents c + 2
  | .windowNear c => chanEvents c + 3
  | .windowExit c => chanEvents c + 4
  | .channelState c => chanEvents c + 5
  | .pressDiscarded c => chanEvents c + 6
  | .pickAvailable => 16
  | .pickNearFull => 17
  | .pickRefused => 18
  | .linkError => 19
  | .linkOverrun => 20
  | .frameRepeat => 21
  | .frameTruncated => 22
  | .viewChanged => 23

/-- The set that holds one event. -/
def Event.toSet (e : Event) : EventSet := 1#24 <<< e.pos

/-- The event is latched in the set, or enabled in it. -/
def Event.isIn (e : Event) (set : EventSet) : Bool := set.getLsbD e.pos

/-- Raise an event: it is latched in both ports' sets (R183). -/
def raise (e : Event) (s : State) : State :=
  let latch := fun (q : PortState) => { q with latched := q.latched ||| e.toSet }
  { s with ports := ⟨latch s.ports.pa, latch s.ports.pb⟩ }

/-- Raise an event when a condition holds. -/
def raiseIf (b : Bool) (e : Event) (s : State) : State := if b then raise e s else s

/-- PICK_AVAILABLE in a set as the raw condition has it (R185). -/
def withPickAvailable (raw : Bool) (set : EventSet) : EventSet :=
  if raw then set ||| Event.pickAvailable.toSet else set &&& ~~~Event.pickAvailable.toSet

/-- The raw condition of PICK_AVAILABLE follows the Pick Queue, and both latched sets follow it (R118, R185). -/
def followPicks (s : State) : State :=
  let raw := !s.picks.records.isEmpty
  let latch := fun (q : PortState) => { q with latched := withPickAvailable raw q.latched }
  { s with pickRaw := raw, ports := ⟨latch s.ports.pa, latch s.ports.pb⟩ }

/-! ## Attention -/

/-- Command attention, the port's own ground (R175). -/
def commandAttention (q : PortState) : Bool := q.attnEnable && (q.done || q.burstAttn)

/-- The grounds that are enabled latched events (R189). -/
def eventGrounds (q : PortState) : EventSet := q.latched &&& q.mask

/-- At least one ground holds (R189). -/
def anyGround (q : PortState) : Bool := commandAttention q || eventGrounds q != 0

/-- Some ground that held in `old` does not hold in `new` (R190). -/
def groundRemoved (old new : PortState) : Bool :=
  (commandAttention old && !commandAttention new) ||
    (eventGrounds old &&& ~~~eventGrounds new) != 0

/-- The attention output after one event that took the port from `old` to `new` (R189, R190, R191). -/
def nextAttn (old new : PortState) : AttnOut :=
  if new.mode = .level ∨ old.mode ≠ new.mode then
    if anyGround new then .on else .off
  else
    match new.attn with
    | .off => if anyGround new then .on else .off
    | .on => if anyGround new then (if groundRemoved old new then .pulsing else .on) else .off
    | .pulsing => if anyGround new then .pulsing else .off

/-- Both attention outputs follow the grounds at the end of one event. -/
def driveAttention (old new : State) : State :=
  { new with ports :=
    ⟨{ new.ports.pa with attn := nextAttn old.ports.pa new.ports.pa },
     { new.ports.pb with attn := nextAttn old.ports.pb new.ports.pb }⟩ }

/-! ## STATUS, reads of the window and HOLD -/

/-- The STATUS byte of a port (R168, R194). -/
def statusByte (q : PortState) : Nat :=
  bit (q.state == .ready) + 2 * bit (q.state != .ready) + 4 * bit q.dreq + 8 * bit q.done +
    16 * bit (q.fault != .none) + 32 * bit q.collide + 64 * bit (q.attn == .on)

/-- What a read of PARAM0 to PARAM3 or COUNT gives: the value held in READY, 0 otherwise (R166). -/
def PortState.readPosition (q : PortState) (pos : ParamPos) : Byte :=
  if q.state = .ready then
    match pos with
    | .param0 => q.window.p0
    | .param1 => q.window.p1
    | .param2 => q.window.p2
    | .param3 => q.window.p3
    | .count => q.window.count
  else 0

/-- What a read of FAULT gives (R166, R194). -/
def PortState.readFault (q : PortState) : Byte := BitVec.ofNat 8 q.fault.code

/-- An access the port cannot honour sets COLLIDE (R169). -/
def collide (p : PortId) (s : State) : State := s.updPort p fun q => { q with collide := true }

/-- HOLD is asserted while two frames are held or the link is in OVERRUN (R162). -/
def holdLevel (l : Link) : Bool := Config.holdingFrames ≤ l.holding.length || l.state == .overrun

/-- HOLD follows its two causes. -/
def driveHold (s : State) : State := { s with link := { s.link with hold := holdLevel s.link } }

end Sys2Proof.Machine
end

