-- ==== Sys2Proof/Machine/Geometry.lean ====
section
/-! DEFINITION. Coordinates: the mapping of tablet points (R3), the conversion of radii (R9), grid
rounding (R13, R14), distances (R48), windows and their zones (R18, R49). -/
namespace Sys2Proof.Machine

/-- One axis of the mapping, o + floor(t·N / 2^S) (R3). -/
def mapAxis (v : View) (o : Coord) (t : TabletCoord) : Coord :=
  BitVec.ofInt 32 (o.toInt + ((t.toNat * v.n.toNat / 2 ^ v.shift.toNat : Nat) : Int))

/-- A tablet point mapped under a view (R3). -/
def mapPoint (v : View) (t : TabletPoint) : Point := ⟨mapAxis v v.ox t.x, mapAxis v v.oy t.y⟩

/-- A radius in tablet counts converted to drawing units, at least 1 (R9). -/
def convertRadius (v : View) (r : Nat) : Nat := max 1 (r * v.n.toNat / 2 ^ v.shift.toNat)

/-- The release radius of a capture radius, in tablet counts (R9). -/
def releaseRadius (rc : Nat) : Nat := rc + rc / 2

/-- One axis rounded to the grid, stepping back one pitch at the ends of the range (R13, R14). -/
def roundAxis (g p x : Coord) : Coord :=
  let q := Int.fdiv (x.toInt - g.toInt + Int.fdiv p.toInt 2) p.toInt
  let r := g.toInt + p.toInt * q
  if r > 2147483647 then BitVec.ofInt 32 (g.toInt + p.toInt * (q - 1))
  else if r < -2147483648 then BitVec.ofInt 32 (g.toInt + p.toInt * (q + 1))
  else BitVec.ofInt 32 r

/-- A drawing point rounded to the grid (R13). -/
def roundPoint (g : Grid) (p : Point) : Point :=
  ⟨roundAxis g.gx g.px p.x, roundAxis g.gy g.py p.y⟩

/-- The Chebyshev distance of two drawing points (R48). -/
def distance (a b : Point) : Nat :=
  max (a.x.toInt - b.x.toInt).natAbs (a.y.toInt - b.y.toInt).natAbs

/-- A window contains a point; the bounds are inclusive, NONE contains none (R18). -/
def Window.contains : Window → Point → Bool
  | .none, _ => false
  | .rect x0 y0 x1 y1, p =>
    decide (x0.toInt ≤ p.x.toInt ∧ p.x.toInt ≤ x1.toInt ∧ y0.toInt ≤ p.y.toInt ∧ p.y.toInt ≤ y1.toInt)

/-- The distance of a point inside a window to its nearest bound (R49). -/
def Window.depth : Window → Point → Int
  | .none, _ => 0
  | .rect x0 y0 x1 y1, p =>
    min (min (p.x.toInt - x0.toInt) (x1.toInt - p.x.toInt))
      (min (p.y.toInt - y0.toInt) (y1.toInt - p.y.toInt))

/-- The window zone of a target for a converted capture radius (R49). -/
def zoneOf (w : Window) (rc : Nat) (t : Point) : Zone :=
  if w.contains t then (if w.depth t < 2 * (rc : Int) then .margin else .interior) else .outside

/-- The constrained target: through the ortho reference when there is one and ortho is on (R54). -/
def constrain (ortho : Bool) (ref : Option Point) (t : Point) : Point × Bool :=
  match ortho, ref with
  | true, some a =>
    if (t.x.toInt - a.x.toInt).natAbs ≥ (t.y.toInt - a.y.toInt).natAbs then (⟨t.x, a.y⟩, true)
    else (⟨a.x, t.y⟩, true)
  | _, _ => (t, false)

end Sys2Proof.Machine
end

