-- ==== Sys2Proof/Machine/Ops.lean ====
section
/-! DEFINITION. The operations the blocks share: the port protocol (R166 to R175), the edit queue and the
turns of the table (R19 to R24, R44, R46), the re-search flag (R45), and one event of the part. -/
namespace Sys2Proof.Machine

/-! ## The port protocol -/

/-- The command completes: outputs, fault code, DONE and READY, in one event (R172). -/
def complete (p : PortId) (out : ParamBlock) (f : FaultCode) (s : State) : State :=
  s.updPort p fun q =>
    { q with window := out, fault := f, done := true, state := .ready, cmd := none,
             dreq := false, burstAttn := false }

/-- A command refused with a fault code at its acceptance: 0 in all five positions (R166, R170). -/
def refuse (p : PortId) (f : FaultCode) (s : State) : State := complete p .zero f s

/-- Acceptance clears DONE, COLLIDE and the fault code (R170). -/
def accept (p : PortId) (s : State) : State :=
  s.updPort p fun q => { q with done := false, fault := .none, collide := false }

/-- A write of a command code to COMMAND (R166, R170): ignored with COLLIDE outside READY; else the
role and the parameters are checked, and `body` carries the command out on its copied parameters. -/
def issue (p : PortId) (op : Command) (body : ParamBlock → State → State) (s : State) : State :=
  if (s.port p).state ≠ .ready then collide p s
  else if inRole op p = false then refuse p .role (accept p s)
  else if paramsOk op (s.port p).window = false then refuse p .param (accept p s)
  else body (s.port p).window (accept p s)

/-- The commands that contribute items to the edit queue (R32). -/
def isTableCommand : Command → Bool
  | .loadCandidates | .removeCandidates | .setWindow | .clearTable => true
  | .setGrid | .setSnap | .setRest | .resetChannel | .readCursor | .armFigure | .cancelFigure
  | .releaseFigure | .clearStall | .readPicks | .flushPicks | .setPickThreshold | .setStation
  | .clearLink | .setView | .setStyle | .fetchOverlay | .readEvents | .clearEvents | .setEventMask
  | .setBurst | .identify => false

def TableCounts.zero : TableCounts :=
  { added := 0, merged := 0, outside := 0, removed := 0, freed := 0, cleared := 0 }

/-- A command at its acceptance, nothing moved. -/
def Progress.start (op : Command) (input : ParamBlock) (total : Nat) (words : List Word) : Progress where
  op := op
  input := input
  total := total
  moved := 0
  words := words
  burstPos := 0
  counts := .zero
  ended := .none
  clearWaiting := false
  frameNo := 0
  strokes := 0

/-- The block cannot take the first word of the next record: a table command facing a full edit queue (R174). -/
def withholds (op : Command) (s : State) : Bool :=
  isTableCommand op && decide (Config.editQueueItems ≤ s.stc.queue.length)

/-- The port turns to the first word of a record: DREQ, unless withheld, and burst attention at the
first record of a burst (R173 to R175). -/
def openRecord (p : PortId) (s : State) : State :=
  match (s.port p).cmd with
  | none => s
  | some c =>
    if withholds c.op s then s.updPort p fun q => { q with dreq := false, burstAttn := false }
    else s.updPort p fun q => { q with dreq := true, burstAttn := c.burstPos == 0 }

/-- Acceptance of a command with a data-in phase of `total` records (R170, R173). -/
def startDataIn (p : PortId) (op : Command) (input : ParamBlock) (total : Nat) (s : State) : State :=
  openRecord p <| s.updPort p fun q =>
    { q with state := .dataIn, cmd := some (.start op input total []) }

/-- Acceptance of a command with a data-out phase, whose first record is `words` (R170, R173). -/
def startDataOut (p : PortId) (op : Command) (input : ParamBlock) (total : Nat) (words : List Word)
    (s : State) : State :=
  openRecord p <| s.updPort p fun q =>
    { q with state := .dataOut, cmd := some (.start op input total words) }

/-- Change the command in progress of a port. -/
def updCmd (p : PortId) (f : Progress → Progress) (s : State) : State :=
  s.updPort p fun q => { q with cmd := q.cmd.map f }

/-- A record has been moved whole: it is counted, and the burst advances (R175, R177). -/
def countRecord (p : PortId) (s : State) : State :=
  let b := (s.port p).burst.toNat
  updCmd p (fun c => { c with moved := c.moved + 1, burstPos := (c.burstPos + 1) % b, words := [] }) s

/-- The remaining count of a command (R177). -/
def Progress.remaining (c : Progress) : Nat := c.total - c.moved

/-! ## Table commands: outputs and completion (R32) -/

/-- The output parameters of a table command (R34 to R37, R195). For SET WINDOW the remaining count is
1 after a timeout and 0 otherwise (log 16). -/
def tableOutputs (c : Progress) : ParamBlock :=
  let n := c.counts
  let r := c.remaining
  match c.op with
  | .loadCandidates =>
    { p0 := lowByte n.added, p1 := lowByte n.merged, p2 := lowByte n.outside,
      p3 := lowByte (ninthBit n.added + 2 * ninthBit n.merged + 4 * ninthBit n.outside +
        8 * ninthBit r),
      count := lowByte r }
  | .removeCandidates =>
    { p0 := lowByte n.removed, p1 := highByte n.removed, p2 := 0,
      p3 := lowByte (8 * ninthBit r), count := lowByte r }
  | .setWindow =>
    { p0 := lowByte n.freed, p1 := highByte n.freed, p2 := lowByte n.cleared,
      p3 := highByte n.cleared, count := if c.ended = .timeout then 1 else 0 }
  | .clearTable =>
    { p0 := lowByte n.freed, p1 := highByte n.freed, p2 := 0, p3 := 0, count := 0 }
  | _ => .zero

/-- An item of the table command in progress has not been applied yet, or its CLEAR item waits (R32). -/
def itemsLeft (s : State) : Bool :=
  (s.stc.queue ++ s.stc.batch).any fun i => i.owner == .inProgress

/-- The table command of Port A completes once its data phase has ended and its items are applied (R32). -/
def finishTable (s : State) : State :=
  match (s.port .a).cmd with
  | none => s
  | some c =>
    if isTableCommand c.op && (s.port .a).state == .busy && !itemsLeft s && !c.clearWaiting then
      complete .a (tableOutputs c) c.ended s
    else s

/-- The data phase of Port A's table command ends with fault `f`; the command completes or waits BUSY (R32, R167). -/
def endTablePhase (f : FaultCode) (s : State) : State :=
  finishTable <| s.updPort .a fun q =>
    { q with state := .busy, dreq := false, burstAttn := false,
             cmd := q.cmd.map fun c => { c with ended := f, words := [] } }

/-! ## The edit queue and the turns of the table -/

/-- An item of the command in progress joins the edit queue; OPEN becomes DRAINING (R19, R22). -/
def joinItem (k : EditKind) (s : State) : State :=
  { s with stc := { s.stc with
      queue := s.stc.queue ++ [{ kind := k, owner := .inProgress }],
      access := if s.stc.access = .opened then .draining else s.stc.access } }

/-- The channel's re-search flag is set, unless the channel is DETACHED (R45). -/
def setFlag (c : Chan) (s : State) : State :=
  s.updChan c fun ch => { ch with flag := ch.flag || ch.state != .detached }

/-- A search is begun and requests the table: granted at once in OPEN, else the unit waits (R44). -/
def beginSearch (c : Chan) (b : SearchBasis) (s : State) : State :=
  s.updChan c fun ch => { ch with search := .waiting b (s.stc.access == .opened) }

/-- The tablet point of a basis (R43). -/
def SearchBasis.point : SearchBasis → TabletPoint
  | .report pt _ => pt
  | .research pt => pt

/-- The presses of a basis; a re-search carries none (R43). -/
def SearchBasis.presses : SearchBasis → List Press
  | .report _ ps => ps
  | .research _ => []

/-- The inputs a search fixes when it enters SEARCHING (R46). -/
def fixInputs (s : State) (c : Chan) (b : SearchBasis) : Inputs :=
  let ch := s.chan c
  let rc := ch.settings.radius.toNat
  { target := mapPoint s.view b.point
    rc := convertRadius s.view rc
    rr := convertRadius s.view (releaseRadius rc)
    gen := s.view.gen
    kinds := ch.settings.kinds
    layers := ch.settings.layers
    gridSnap := ch.settings.gridSnap
    ortho := ch.settings.ortho
    grid := s.grid
    orthoRef := ch.anchors.getLast?
    prev := ch.cursor.hit.map fun h => (h, ch.cursor.snapped) }

/-- A granted search enters SEARCHING: it fixes its inputs, clears the re-search flag and is in flight
from then on (R21, R46). Without a granted search nothing changes. -/
def startSearch (c : Chan) (s : State) : State :=
  match (s.chan c).search with
  | .waiting b true =>
    let t := s.updChan c fun ch =>
      { ch with search := .searching b .none (fixInputs s c b), flag := false }
    { t with stc := { t.stc with inFlight := t.stc.inFlight + 1 } }
  | .quiet | .waiting _ false | .searching _ _ _ => s

/-- The unit's search has been granted the table and has not entered SEARCHING. -/
def granted : Search → Bool
  | .waiting _ g => g
  | .quiet | .searching _ _ _ => false

/-- A waiting search is released: it is granted the table (R23). -/
def releaseSearch : Search → Search
  | .waiting b _ => .waiting b true
  | .quiet => .quiet
  | .searching b m i => .searching b m i

/-- Every WAITING search is released (R23, R39). -/
def releaseWaiting (s : State) : State :=
  let free := fun (ch : Channel) => { ch with search := releaseSearch ch.search }
  { s with chans := ⟨free s.chans.ch0, free s.chans.ch1⟩ }

/-- A batch is to start: items are queued and no search is in flight or about to be (R22). -/
def batchDue (s : State) : Bool :=
  s.stc.access == .draining && !s.stc.queue.isEmpty && s.stc.inFlight == 0 &&
    !granted (s.chan .c0).search && !granted (s.chan .c1).search

/-- A CLEAR item that waits outside the queue joins it at a batch start (R37). -/
def joinWaitingClear (s : State) : State :=
  match (s.port .a).cmd with
  | none => s
  | some c =>
    if c.clearWaiting then updCmd .a (fun d => { d with clearWaiting := false }) (joinItem .clear s)
    else s

/-- A withheld DREQ of Port A's table command is set once the queue has been emptied (R174). -/
def openWithheld (s : State) : State :=
  let q := s.port .a
  if q.state == .dataIn && !q.dreq then openRecord .a s else s

/-- A batch starts: every queued item becomes the batch (R22). Without a batch due nothing changes. -/
def startBatch (s : State) : State :=
  if batchDue s then
    openWithheld <| joinWaitingClear
      { s with stc := { s.stc with queue := [], batch := s.stc.queue, access := .applying } }
  else s

/-! ## One event -/

/-- The starts that are due have been made: a granted search has entered SEARCHING, and a due batch
has started (R22, R23, R44; log 3). The attention outputs follow a batch start. -/
def settle (s : State) : State :=
  let t := startSearch .c1 (startSearch .c0 s)
  if batchDue t then driveAttention t (startBatch t) else t

/-- One event of the part: the starts that were due come first, then the event's own effect, and the
attention outputs follow the grounds at its end. -/
def event (f : State → State) (s : State) : Host.Outcome State Fault Refusal :=
  .next (driveAttention (settle s) (f (settle s)))

end Sys2Proof.Machine
end

