-- ==== Sys2Proof/Machine/EventUnit.lean ====
section
/-! DEFINITION. The Event Unit: READ EVENTS, CLEAR EVENTS and SET EVENT MASK (R186 to R188), and the end
of an attention pulse (R190). -/
namespace Sys2Proof.Machine

/-- PARAM3 of READ EVENTS: the raw condition and the attention mode (R186, R196). -/
def rawConditions (s : State) (q : PortState) : Byte :=
  lowByte (bit s.pickRaw + 2 * bit (q.mode == .edge))

/-- READ EVENTS (R186). -/
def execReadEvents (p : PortId) (s : State) : Host.Outcome State Fault Refusal :=
  event (issue p .readEvents fun _ t =>
    complete p (eventOutputs (t.port p).latched (rawConditions t (t.port p))) .none t) s

/-- The latched set after a clear: PICK_AVAILABLE is latched again while its condition is true (R185, R187). -/
def clearSet (raw : Bool) (named set : EventSet) : EventSet :=
  if raw then (set &&& ~~~named) ||| Event.pickAvailable.toSet else set &&& ~~~named

/-- An accepted CLEAR EVENTS (R187). -/
def acceptClearEvents (p : PortId) (i : ParamBlock) (s : State) : State :=
  let left := clearSet s.pickRaw i.events (s.port p).latched
  complete p (eventOutputs left 0) .none (s.updPort p fun q => { q with latched := left })

/-- CLEAR EVENTS (R187). -/
def execClearEvents (p : PortId) (s : State) : Host.Outcome State Fault Refusal :=
  event (issue p .clearEvents fun i t => acceptClearEvents p i t) s

/-- SET EVENT MASK (R188). -/
def execSetEventMask (p : PortId) (s : State) : Host.Outcome State Fault Refusal :=
  event (issue p .setEventMask fun i t =>
    complete p .zero .none (t.updPort p fun q => { q with mask := i.events })) s

/-- The 2 µs end: ON when a ground holds, otherwise OFF (R190). Without a pulse nothing changes. -/
def endPulse (q : PortState) : PortState :=
  if q.attn = .pulsing then { q with attn := if anyGround q then .on else .off } else q

/-- PULSE_END (R190). -/
def execPulseEnd (p : PortId) (s : State) : Host.Outcome State Fault Refusal :=
  event (fun t => t.updPort p endPulse) s

end Sys2Proof.Machine
end

