-- ==== Sys2Proof/Machine/Picks.lean ====
section
/-! DEFINITION. The Pick Queue: offers (R115), the removal of a record that has been read (R120), and
the commands READ PICKS, FLUSH PICKS and SET PICK THRESHOLD (R117, R119, R124). -/
namespace Sys2Proof.Machine

/-- The Pick Queue has room for a record (R115). -/
def picksHaveRoom (s : State) : Bool :=
  decide (s.picks.records.length < Config.pickQueueRecords)

/-- An offer of a record: appended, with PICK_NEAR_FULL at the threshold, or refused with PICK_REFUSED
(R115, R116). -/
def offerPick (r : PickRecord) (s : State) : State :=
  if picksHaveRoom s then
    let t := followPicks { s with picks := { s.picks with records := s.picks.records ++ [r] } }
    raiseIf (s.picks.records.length + 1 == s.picks.threshold.toNat) .pickNearFull t
  else raise .pickRefused s

/-- The record at the head leaves the queue (R120). -/
def removePick (s : State) : State :=
  followPicks { s with picks := { s.picks with records := s.picks.records.tail } }

/-- The words of the record at the head; none when the queue is empty. -/
def headPickWords (s : State) : List Word := (s.picks.records.head?.map PickRecord.toWords).getD []

/-- The outputs of READ PICKS: transferred, held, and the remaining count, which is reported at a
timeout only (R119, R122, R123, R195). -/
def pickOutputs (transferred held remaining : Nat) : ParamBlock where
  p0 := lowByte transferred
  p1 := lowByte held
  p2 := 0
  p3 := lowByte (ninthBit transferred + 8 * ninthBit remaining)
  count := lowByte remaining

/-- An accepted READ PICKS: complete at once on an empty queue, else the head record is presented (R119). -/
def acceptReadPicks (p : PortId) (i : ParamBlock) (s : State) : State :=
  if s.picks.records.isEmpty then complete p (pickOutputs 0 0 0) .none s
  else startDataOut p .readPicks i i.records (headPickWords s) s

/-- READ PICKS (R119). -/
def execReadPicks (p : PortId) (s : State) : Host.Outcome State Fault Refusal :=
  event (issue p .readPicks fun i t => acceptReadPicks p i t) s

/-- An accepted FLUSH PICKS (R124). -/
def acceptFlush (p : PortId) (s : State) : State :=
  complete p { ParamBlock.zero with p0 := lowByte s.picks.records.length } .none <|
    followPicks { s with picks := { s.picks with records := [] } }

/-- FLUSH PICKS (R124). -/
def execFlushPicks (p : PortId) (s : State) : Host.Outcome State Fault Refusal :=
  event (issue p .flushPicks fun _ t => acceptFlush p t) s

/-- An accepted SET PICK THRESHOLD reports the records held (R117). -/
def acceptThreshold (p : PortId) (i : ParamBlock) (s : State) : State :=
  complete p { ParamBlock.zero with p0 := lowByte s.picks.records.length } .none
    { s with picks := { s.picks with threshold := BitVec.ofNat 5 i.p0.toNat } }

/-- SET PICK THRESHOLD (R117). -/
def execSetPickThreshold (p : PortId) (s : State) : Host.Outcome State Fault Refusal :=
  event (issue p .setPickThreshold fun i t => acceptThreshold p i t) s

end Sys2Proof.Machine
end

