-- ==== Sys2Proof/Machine/Figure.lean ====
section
/-! DEFINITION. The Figure Sequencers: presses in each stage (R94 to R104), replay (R106), and the
figure commands (R105, R107 to R110). -/
namespace Sys2Proof.Machine

/-- The stage becomes `st`; a change raises STAGE_CHANGED_c (R93). -/
def setStage (c : Chan) (st : Stage) (s : State) : State :=
  raiseIf ((s.chan c).stage != st) (.stageChanged c) <| s.updChan c fun ch => { ch with stage := st }

/-- The anchor list is emptied (R91). -/
def clearAnchors (c : Chan) (s : State) : State := s.updChan c fun ch => { ch with anchors := [] }

/-- The snapped point of the current result joins the anchor list (R91). -/
def addAnchor (c : Chan) (s : State) : State :=
  s.updChan c fun ch => { ch with anchors := ch.anchors ++ [ch.cursor.snapped] }

/-- The pick record of a step, made against the channel's current result (R94). -/
def makeRecord (c : Chan) (kind : RecordKind) (index : Nat) (s : State) : PickRecord :=
  let ch := s.chan c
  { chan := c, kind := kind, template := ch.template, index := index, snapped := ch.cursor.snapped
    raw := ch.cursor.raw, basis := ch.cursor.basis, hit := ch.cursor.hit
    frameNo := s.overlay.frameNo, gen := ch.cursor.gen }

/-- No figure: template NONE, target count and completion action absent. -/
def dropTemplate (c : Chan) (s : State) : State :=
  s.updChan c fun ch => { ch with template := .none, target := none, action := none }

/-- The completion action of a completed figure (R90). A figure without one cannot arise (log 20). -/
def applyAction (c : Chan) (s : State) : State :=
  match (s.chan c).action with
  | some .hold => setStage c .hold s
  | some .repeated => setStage c .armed (clearAnchors c s)
  | some .once => setStage c .idle (dropTemplate c (clearAnchors c s))
  | none => s

/-- A press is discarded with PRESS_DISCARDED_c (R101, R104). -/
def discardPress (c : Chan) (s : State) : State := raise (.pressDiscarded c) s

/-- A sequence error in stage ARMED or BANDING: STALLED with that return stage (R103). -/
def sequenceError (c : Chan) (ret : ReturnStage) (s : State) : State :=
  raise (.seqError c) <| setStage c .stalled <|
    s.updChan c fun ch => { ch with ret := some ret, saved := none }

/-- A press in STALLED is saved when the slot is empty, else discarded (R104). -/
def savePress (c : Chan) (pr : Press) (s : State) : State :=
  match (s.chan c).saved with
  | none => s.updChan c fun ch => { ch with saved := some pr }
  | some _ => discardPress c s

/-- The kind and index of the record a press makes in its stage, if it makes one (R96 to R100). -/
def pressRecord (ch : Channel) (pr : Press) : Option (RecordKind × Nat) :=
  let n := ch.anchors.length
  match ch.stage, pr with
  | .idle, .pick => some (.point, 0)
  | .armed, .pick => some (.anchor, 1)
  | .banding, .pick =>
    if n + 1 < ch.target.getD 0 then some (.anchor, n + 1) else some (.done, n + 1)
  | .banding, .finish =>
    if ch.template = .polyline ∧ 2 ≤ n then some (.finish, n) else none
  | .banding, .cancel => some (.cancelled, n)
  | .idle, .finish | .idle, .cancel | .armed, .finish | .armed, .cancel => none
  | .hold, _ | .stalled, _ => none

/-- A press that makes a record, once the record has entered the Pick Queue (R96 to R100). -/
def recordAccepted (c : Chan) (kind : RecordKind) (s : State) : State :=
  match kind with
  | .point => s
  | .anchor => setStage c .banding (addAnchor c s)
  | .done => applyAction c (addAnchor c s)
  | .finish => applyAction c s
  | .cancelled => setStage c .armed (clearAnchors c s)

/-- A press whose record was refused: refused as a whole, except for a CANCEL (R95). -/
def recordRefused (c : Chan) (kind : RecordKind) (s : State) : State :=
  match kind with
  | .cancelled => setStage c .armed (clearAnchors c s)
  | .point | .anchor | .done | .finish => s

/-- A record is made and offered, and the press or command acts on the answer (R95). -/
def offerRecord (c : Chan) (kind : RecordKind) (index : Nat) (s : State) : State :=
  let t := offerPick (makeRecord c kind index s) s
  if picksHaveRoom s then recordAccepted c kind t else recordRefused c kind t

/-- A press that makes no record (R96 to R104). -/
def pressWithoutRecord (c : Chan) (pr : Press) (s : State) : State :=
  match (s.chan c).stage, pr with
  | .armed, .finish => sequenceError c .armed s
  | .banding, .finish => sequenceError c .banding s
  | .hold, _ => discardPress c s
  | .stalled, _ => savePress c pr s
  | .idle, _ | .armed, _ | .banding, _ => s

/-- One press handled against the channel's current result (R94, R96 to R104). -/
def handlePress (c : Chan) (pr : Press) (s : State) : State :=
  match pressRecord (s.chan c) pr with
  | some (kind, index) => offerRecord c kind index s
  | none => pressWithoutRecord c pr s

/-- The presses of a report, in order (R94). -/
def handlePresses (c : Chan) : List Press → State → State
  | [], s => s
  | pr :: rest, s => handlePresses c rest (handlePress c pr s)

/-! ## Figure commands -/

/-- A body that acts on the channel named in PARAM0; the channel has been checked (R195). -/
def withChannel (i : ParamBlock) (body : Chan → State → State) (s : State) : State :=
  match chanOfByte i.p0 with
  | some c => body c s
  | none => s

/-- The target count a template is armed with (R89, R108). -/
def armTarget (t : Template) (given : Nat) : Option Nat :=
  match t with
  | .none => none
  | .line | .rect | .circle => some 2
  | .arc3 => some 3
  | .polyline => some given

/-- An accepted ARM FIGURE arms the template (R108). -/
def armTemplate (c : Chan) (t : Template) (i : ParamBlock) (s : State) : State :=
  setStage c (if t = .none then .idle else .armed) <| s.updChan c fun ch =>
    { ch with template := t, target := armTarget t i.p2.toNat,
              action := if t = .none then none else Action.ofCode i.p3.toNat, anchors := [] }

/-- ARM FIGURE on a channel: refused with STAGE in BANDING and STALLED (R108). -/
def acceptArm (p : PortId) (i : ParamBlock) (c : Chan) (s : State) : State :=
  let ch := s.chan c
  if ch.stage = .banding ∨ ch.stage = .stalled then refuse p .stage s
  else
    match Template.ofCode i.p1.toNat with
    | none => refuse p .param s
    | some t =>
      complete p { ParamBlock.zero with p0 := lowByte ch.stage.code, p1 := lowByte ch.anchors.length }
        .none (armTemplate c t i s)

/-- ARM FIGURE (R108). -/
def execArmFigure (p : PortId) (s : State) : Host.Outcome State Fault Refusal :=
  event (issue p .armFigure fun i t => withChannel i (acceptArm p i) t) s

/-- The outputs of CANCEL FIGURE: the stage before, and 0, 1 or 2 for the record (R109, R195). -/
def cancelOutputs (st : Stage) (record : Byte) : ParamBlock :=
  { ParamBlock.zero with p0 := lowByte st.code, p1 := record }

/-- CANCEL FIGURE on a channel (R109). -/
def acceptCancel (p : PortId) (c : Chan) (s : State) : State :=
  let ch := s.chan c
  match ch.stage with
  | .idle | .armed => complete p (cancelOutputs ch.stage 0) .none s
  | .banding | .hold =>
    complete p (cancelOutputs ch.stage (if picksHaveRoom s then 1 else 2)) .none
      (offerRecord c .cancelled ch.anchors.length s)
  | .stalled => refuse p .stage s

/-- CANCEL FIGURE (R109). -/
def execCancelFigure (p : PortId) (s : State) : Host.Outcome State Fault Refusal :=
  event (issue p .cancelFigure fun i t => withChannel i (acceptCancel p) t) s

/-- A held figure is released to ARMED, or to IDLE (R110). -/
def releaseHeld (c : Chan) (toIdle : Bool) (s : State) : State :=
  if toIdle then setStage c .idle (dropTemplate c (clearAnchors c s))
  else setStage c .armed (clearAnchors c s)

/-- RELEASE FIGURE on a channel: accepted in HOLD only (R110). -/
def acceptRelease (p : PortId) (i : ParamBlock) (c : Chan) (s : State) : State :=
  let ch := s.chan c
  if ch.stage = .hold then
    complete p { ParamBlock.zero with p0 := lowByte ch.anchors.length } .none
      (releaseHeld c (i.p1.getLsbD 0) s)
  else refuse p .stage s

/-- RELEASE FIGURE (R110). -/
def execReleaseFigure (p : PortId) (s : State) : Host.Outcome State Fault Refusal :=
  event (issue p .releaseFigure fun i t => withChannel i (acceptRelease p i) t) s

/-- The stage a return stage names (R88). -/
def ReturnStage.toStage : ReturnStage → Stage
  | .armed => .armed
  | .banding => .banding

/-- The stall ends: the return stage is restored and cleared, the saved press taken from its slot (R105). -/
def endStall (c : Chan) (r : ReturnStage) (s : State) : State :=
  setStage c r.toStage <| s.updChan c fun ch => { ch with ret := none, saved := none }

/-- The replay of a saved press, if there was one (R106). -/
def replay (c : Chan) (pr : Option Press) (s : State) : State :=
  match pr with
  | none => s
  | some q => handlePress c q s

/-- The outputs of CLEAR STALL (R105, R195): `before` is the state with the stall ended and the press
not yet replayed. -/
def stallOutputs (c : Chan) (r : ReturnStage) (pr : Option Press) (before after : State) :
    ParamBlock :=
  let made := pr.bind (pressRecord (before.chan c))
  { p0 := lowByte r.toStage.code
    p1 := lowByte ((pr.map Press.code).getD 0)
    p2 := lowByte ((made.map fun k => k.1.code).getD 7)
    p3 := if made.isSome ∧ picksHaveRoom before = false then 1 else 0
    count := lowByte (after.chan c).stage.code }

/-- CLEAR STALL on a channel: accepted in STALLED only (R105). A STALLED sequencer without a return
stage cannot arise and is refused like another stage (log 20). -/
def acceptClearStall (p : PortId) (c : Chan) (s : State) : State :=
  let ch := s.chan c
  match ch.stage, ch.ret with
  | .stalled, some r =>
    let t := endStall c r s
    let u := replay c ch.saved t
    complete p (stallOutputs c r ch.saved t u) .none u
  | .stalled, none | .idle, _ | .armed, _ | .banding, _ | .hold, _ => refuse p .stage s

/-- CLEAR STALL (R105). -/
def execClearStall (p : PortId) (s : State) : Host.Outcome State Fault Refusal :=
  event (issue p .clearStall fun i t => withChannel i (acceptClearStall p) t) s

end Sys2Proof.Machine
end

