-- ==== Sys2Proof/Machine/SnapSearch.lean ====
section
/-! DEFINITION. Snap search: the choice of the snapped point (R48 to R55), search completion (R56 to
R62), the start of a search (R46) and of a re-search (R44), and SET SNAP (R41). -/
namespace Sys2Proof.Machine

/-! ## Choosing the snapped point -/

/-- An entry is eligible for a search of channel `c` (R48). -/
def eligible (c : Chan) (i : Inputs) (e : Entry) : Bool :=
  e.seats.get c && i.kinds.getLsbD (e.kind.code - 1) && i.layers.getLsbD e.layer.toNat

/-- The candidate set: the eligible entries within Rc of the target (R51). -/
def candidates (c : Chan) (i : Inputs) (table : List Entry) : List Entry :=
  table.filter fun e => eligible c i e && decide (distance e.point i.target ≤ i.rc)

/-- The ranking keys of an entry, in order (R52). -/
def rankKeys (t : Point) (e : Entry) : List Int :=
  [e.cls.toNat, distance e.point t, e.handle.toNat, e.kind.code, e.point.x.toInt, e.point.y.toInt]

/-- The first list is smaller at the first key in which the two differ. -/
def keysLess : List Int → List Int → Bool
  | a :: as, b :: bs => if a < b then true else if b < a then false else keysLess as bs
  | _, _ => false

/-- The best of two entries (R52). -/
def better (t : Point) (a b : Entry) : Entry :=
  if keysLess (rankKeys t b) (rankKeys t a) then b else a

/-- The best member of a candidate set, if it has one (R52). -/
def bestOf (t : Point) : List Entry → Option Entry
  | [] => none
  | e :: rest =>
    match bestOf t rest with
    | none => some e
    | some b => some (better t e b)

/-- The eligible entry that the previous hit names, if there is one (R51). -/
def previousEntry (c : Chan) (i : Inputs) (table : List Entry) : Option Entry :=
  match i.prev with
  | none => none
  | some (h, pt) =>
    table.find? fun e =>
      eligible c i e && e.handle == h.handle && e.kind == h.kind && e.point == pt

/-- The previous hit's entry is kept: within Rr, and no candidate of a strictly better class (R51). -/
def keepsPrevious (c : Chan) (i : Inputs) (table : List Entry) (e : Entry) : Bool :=
  decide (distance e.point i.target ≤ i.rr) &&
    !(candidates c i table).any fun m => decide (m.cls.toNat < e.cls.toNat)

/-- The entry a search that is not DEGRADED snaps to, if any (R51, R52). -/
def chooseEntry (c : Chan) (i : Inputs) (table : List Entry) : Option Entry :=
  match previousEntry c i table with
  | some e => if keepsPrevious c i table e then some e else bestOf i.target (candidates c i table)
  | none => bestOf i.target (candidates c i table)

/-- The result of a search (R53 to R55), with its window zone. -/
structure SearchResult where
  snapped : Point
  basis : ResultBasis
  hit : Option Hit
  orthoApplied : Bool
  zone : Zone
deriving DecidableEq, Repr

/-- A search without a hit: the constraint, then the grid (R54, R55). -/
def resolveFree (i : Inputs) (z : Zone) : SearchResult :=
  let t := constrain i.ortho i.orthoRef i.target
  if i.gridSnap && i.grid.present then
    { snapped := roundPoint i.grid t.1, basis := .grid, hit := none, orthoApplied := t.2, zone := z }
  else { snapped := t.1, basis := .free, hit := none, orthoApplied := t.2, zone := z }

/-- The result of a search on the table and the channel's window (R49, R50, R53). -/
def resolve (c : Chan) (i : Inputs) (stc : TableController) : SearchResult :=
  let z := zoneOf (stc.windows.get c) i.rc i.target
  if z = .outside then resolveFree i z
  else
    match chooseEntry c i stc.table with
    | some e =>
      { snapped := e.point, basis := .hit, orthoApplied := false, zone := z
        hit := some { handle := e.handle, kind := e.kind, cls := e.cls } }
    | none => resolveFree i z

/-! ## Completion -/

/-- The cursor record a completion writes (R59). -/
def resultRecord (b : SearchBasis) (i : Inputs) (r : SearchResult) : CursorRecord where
  raw := b.point
  target := i.target
  snapped := r.snapped
  basis := r.basis
  hit := r.hit
  degraded := r.zone == .outside
  orthoApplied := r.orthoApplied
  hitLost := false
  gen := i.gen

/-- Two hits are the same: both absent, or the same handle and snap kind (R60). -/
def sameHit : Option Hit → Option Hit → Bool
  | none, none => true
  | some a, some b => a.handle == b.handle && a.kind == b.kind
  | none, some _ | some _, none => false

/-- The search leaves the table (R21, R56). -/
def leaveTable (s : State) : State :=
  { s with stc := { s.stc with inFlight := s.stc.inFlight - 1 } }

/-- A result is written: cursor record, window zone, HIT_CHANGED_c and the window events; the unit
becomes QUIET (R59 to R61). -/
def writeResult (c : Chan) (b : SearchBasis) (i : Inputs) (r : SearchResult) (s : State) : State :=
  let ch := s.chan c
  raiseIf (ch.zone != .outside && r.zone == .outside) (.windowExit c) <|
    raiseIf (ch.zone == .interior && r.zone == .margin) (.windowNear c) <|
      raiseIf (!sameHit ch.cursor.hit r.hit) (.hitChanged c) <|
        s.updChan c fun ch =>
          { ch with cursor := resultRecord b i r, zone := r.zone, search := .quiet }

/-- The completion of a channel's search, by its mark (R56): the result and its presses (R59 to R62),
nothing but QUIET (R57), or the rerun on the same basis (R58). -/
def completeSearch (c : Chan) (s : State) : State :=
  match (s.chan c).search with
  | .searching b .none i =>
    handlePresses c b.presses (writeResult c b i (resolve c i s.stc) (leaveTable s))
  | .searching _ .reset _ => (leaveTable s).updChan c fun ch => { ch with search := .quiet }
  | .searching b .view _ => beginSearch c b (leaveTable s)
  | .quiet | .waiting _ _ => s

/-- SEARCH_COMPLETION (R56): of the channel's search, if it is SEARCHING. -/
def execSearchCompletion (c : Chan) (s : State) : Host.Outcome State Fault Refusal :=
  event (completeSearch c) s

/-- SEARCH_START (R46): a granted search enters SEARCHING. -/
def execSearchStart (c : Chan) (s : State) : Host.Outcome State Fault Refusal :=
  .next (startSearch c s)

/-- A re-search is due: unit QUIET, report queue empty, re-search flag set (R44). -/
def reSearchDue (ch : Channel) : Bool :=
  ch.search == .quiet && ch.queue.isEmpty && ch.flag

/-- RE_SEARCH (R44): a re-search of the stored raw tablet point, if one is due. -/
def execReSearch (c : Chan) (s : State) : Host.Outcome State Fault Refusal :=
  event (fun t =>
    if reSearchDue (t.chan c) then beginSearch c (.research (t.chan c).raw) t else t) s

/-! ## SET SNAP -/

/-- Accepted settings of a channel (R41). -/
def acceptSettings (c : Chan) (v : Settings) (s : State) : State :=
  setFlag c <| s.updChan c fun ch => { ch with settings := v }

/-- The last word of a settings record has arrived; the channel is that of the copied parameters (R41). -/
def takeSettings (p : PortId) (input : ParamBlock) (words : List Word) (s : State) : State :=
  match parseSettings words, chanOfByte input.p0 with
  | some v, some c => complete p .zero .none (acceptSettings c v s)
  | _, _ => complete p .zero .param s

/-- SET SNAP (R41). -/
def execSetSnap (p : PortId) (s : State) : Host.Outcome State Fault Refusal :=
  event (issue p .setSnap fun i t => startDataIn p .setSnap i 1 t) s

end Sys2Proof.Machine
end

