-- ==== Sys2Proof/Machine/Pointer.lean ====
section
/-! DEFINITION. The Pointer Channels: the take of a report (R69, R74 to R78), the rest timer (R79 to
R81), RESET CHANNEL (R82) and READ CURSOR (R85), and how an offered report joins a queue (R72, R73). -/
namespace Sys2Proof.Machine

/-! ## Joining the report queue -/

/-- The button bitmap of a message; a PROX_OUT counts as 0 (R72). -/
def Message.buttons : Message → BitVec 3
  | .motion _ b => b
  | .proxIn _ b => b
  | .proxOut => 0

/-- The reference bitmap for a report that is offered (R72). -/
def referenceButtons (ch : Channel) : BitVec 3 :=
  match ch.queue.getLast? with
  | some r => r.msg.buttons
  | none => ch.buttons

/-- The class of an offered report: edge, or plain (R72). -/
def isEdge (ch : Channel) : Message → Bool
  | .motion _ b => b != referenceButtons ch
  | .proxIn _ _ | .proxOut => true

/-- The queue after an offer, or none where the offer is refused (R73). -/
def joinQueue (ch : Channel) (m : Message) : Option (List Report) :=
  let r : Report := { msg := m, edge := isEdge ch m }
  let youngestPlain := match ch.queue.getLast? with | some y => !y.edge | none => false
  if !r.edge && youngestPlain then some (ch.queue.dropLast ++ [r])
  else if ch.queue.length < Config.reportQueueReports then some (ch.queue ++ [r])
  else none

/-! ## The rest timer -/

/-- The rest interval of parameter p, in seconds (R79). -/
def restInterval (p : Byte) : Nat := if p = 0 then 600 else p.toNat * 4

/-- The channel state becomes `st`; a change raises CHANNEL_STATE_c (R68). -/
def setChanState (c : Chan) (st : ChanState) (s : State) : State :=
  raiseIf ((s.chan c).state != st) (.channelState c) <| s.updChan c fun ch => { ch with state := st }

/-- The expiry of a RUNNING rest timer (R80). -/
def expireRest (c : Chan) (s : State) : State :=
  match (s.chan c).timer with
  | .running _ => setChanState c .resting (s.updChan c fun ch => { ch with timer := .stopped })
  | .stopped => s

/-- REST_TIMER_EXPIRY (R80): of a timer that is RUNNING. -/
def execRestTimerExpiry (c : Chan) (s : State) : Host.Outcome State Fault Refusal :=
  event (expireRest c) s

/-- A RUNNING timer is restarted with a new interval (R81). -/
def restartTimer (seconds : Nat) : RestTimer → RestTimer
  | .running _ => .running seconds
  | .stopped => .stopped

/-- An accepted SET REST (R81). -/
def acceptRest (p : PortId) (i : ParamBlock) (s : State) : State :=
  let again := fun (ch : Channel) =>
    { ch with timer := restartTimer (restInterval i.p0) ch.timer }
  complete p .zero .none
    { s with rest := i.p0, chans := ⟨again s.chans.ch0, again s.chans.ch1⟩ }

/-- SET REST (R81). -/
def execSetRest (p : PortId) (s : State) : Host.Outcome State Fault Refusal :=
  event (issue p .setRest fun i t => acceptRest p i t) s

/-! ## Taking reports -/

/-- The presses of a bitmap against the last button bitmap, in the order PICK, FINISH, CANCEL (R78). -/
def detectPresses (last now : BitVec 3) : List Press :=
  (if now.getLsbD 0 && !last.getLsbD 0 then [Press.pick] else []) ++
  (if now.getLsbD 1 && !last.getLsbD 1 then [Press.finish] else []) ++
  (if now.getLsbD 2 && !last.getLsbD 2 then [Press.cancel] else [])

/-- The distance of two tablet coordinates. -/
def tabletGap (a b : TabletCoord) : Nat := (a.toNat - b.toNat) + (b.toNat - a.toNat)

/-- A MOTION or PROX_IN report at `pt` is beyond the deadband when it is taken (R69). -/
def beyondDeadband (ch : Channel) (edge : Bool) (pt : TabletPoint) : Bool :=
  edge || ch.state == .detached || ch.state == .away ||
    decide (tabletGap pt.x ch.raw.x > ch.settings.deadband.toNat) ||
    decide (tabletGap pt.y ch.raw.y > ch.settings.deadband.toNat)

/-- The take of a MOTION or PROX_IN report beyond the deadband (R75). -/
def takeBeyond (c : Chan) (pt : TabletPoint) (buttons : BitVec 3) (s : State) : State :=
  let presses := detectPresses (s.chan c).buttons buttons
  beginSearch c (.report pt presses) <| setChanState c .tracking <|
    s.updChan c fun ch =>
      { ch with buttons := buttons, raw := pt, timer := .running (restInterval s.rest) }

/-- The take of a PROX_OUT report (R77). -/
def takeProxOut (c : Chan) (s : State) : State :=
  let t := s.updChan c fun ch => { ch with buttons := 0 }
  match (s.chan c).state with
  | .tracking | .resting =>
    setChanState c .away (t.updChan c fun ch => { ch with timer := .stopped })
  | .away | .detached => t

/-- A taken report, already out of the queue, acts on the channel (R75 to R77). -/
def actOnReport (c : Chan) (r : Report) (s : State) : State :=
  match r.msg with
  | .motion pt b | .proxIn pt b =>
    if beyondDeadband (s.chan c) r.edge pt then takeBeyond c pt b s else s
  | .proxOut => takeProxOut c s

/-- The take of the head report, if the unit is QUIET and there is one (R74). -/
def takeReport (c : Chan) (s : State) : State :=
  match (s.chan c).search, (s.chan c).queue with
  | .quiet, r :: rest => actOnReport c r (s.updChan c fun ch => { ch with queue := rest })
  | .quiet, [] | .waiting _ _, _ | .searching _ _ _, _ => s

/-- REPORT_TAKE (R74). -/
def execReportTake (c : Chan) (s : State) : Host.Outcome State Fault Refusal :=
  event (takeReport c) s

/-! ## RESET CHANNEL -/

/-- A channel reset acts on the unit's search: withdrawn while WAITING, marked RESET while SEARCHING (R47). -/
def resetSearch : Search → Search
  | .quiet | .waiting _ _ => .quiet
  | .searching b _ i => .searching b .reset i

/-- The channel after a channel reset: snap settings kept, the rest as after device reset (R82, R112). -/
def resetChannelState (ch : Channel) : Channel :=
  { Channel.reset with settings := ch.settings, search := resetSearch ch.search }

/-- The search code of RESET CHANNEL's outputs: none, marked RESET, withdrawn (R195). -/
def resetSearchCode : Search → Byte
  | .quiet => 0
  | .searching _ _ _ => 1
  | .waiting _ _ => 2

/-- An accepted RESET CHANNEL (R82). -/
def acceptResetChannel (p : PortId) (c : Chan) (s : State) : State :=
  let ch := s.chan c
  complete p
    { ParamBlock.zero with p0 := lowByte ch.queue.length, p1 := resetSearchCode ch.search } .none <|
    raiseIf (ch.stage != .idle) (.stageChanged c) <|
      raiseIf (ch.state != .detached) (.channelState c) <| s.updChan c resetChannelState

/-- RESET CHANNEL (R82). -/
def execResetChannel (p : PortId) (s : State) : Host.Outcome State Fault Refusal :=
  event (issue p .resetChannel fun i t => withChannel i (acceptResetChannel p) t) s

/-! ## READ CURSOR -/

/-- READ CURSOR (R85): the cursor record is copied at acceptance and transferred. -/
def execReadCursor (p : PortId) (s : State) : Host.Outcome State Fault Refusal :=
  event (issue p .readCursor fun i t =>
    withChannel i (fun c u => startDataOut p .readCursor i 1 (u.chan c).cursorWords u) t) s

end Sys2Proof.Machine
end

