-- ==== Sys2Proof/Machine/LinkReceiver.lean ====
section
/-! DEFINITION. The Link Receiver: frames (R151 to R155), station matching (R157), the holding buffer
and its offers (R159, R160), overrun (R163), SET STATION (R158) and CLEAR LINK (R164). -/
namespace Sys2Proof.Machine

/-- An address byte and a station agree in every bit the mask leaves (R157). -/
def stationMatches (st : Station) (addr : Byte) : Bool :=
  ((st.address.setWidth 8 ^^^ addr) &&& ~~~(st.mask.setWidth 8)) == 0

/-- The channel a good frame goes to; channel 0 is tested first (R157). -/
def matchStation (l : Link) (addr : Byte) : Option Chan :=
  if stationMatches l.stations.ch0 addr then some .c0
  else if stationMatches l.stations.ch1 addr then some .c1
  else none

/-- The frame assembler of the receiver is put in a state. -/
def setAssembler (a : Assembler) (s : State) : State :=
  { s with link := { s.link with assembler := a } }

/-- A framing error: the frame is discarded with LINK_ERROR, back to HUNT (R155). -/
def framingError (s : State) : State := raise .linkError (setAssembler .hunt s)

/-- A good frame completed: by the link state matched and held, lost in an overrun, or discarded (R156,
R157, R159, R163). -/
def deliverFrame (addr : Byte) (m : Message) (s : State) : State :=
  match s.link.state, matchStation s.link addr with
  | .run, some c =>
    if s.link.holding.length < Config.holdingFrames then
      { s with link := { s.link with holding := s.link.holding ++ [{ chan := c, msg := m }] } }
    else raise .linkOverrun { s with link := { s.link with state := .overrun } }
  | _, _ => s

/-- The last byte of a frame has arrived: it is checked (R155). -/
def completeFrame (bytes : List Byte) (s : State) : State :=
  match goodFrame bytes with
  | none => framingError s
  | some (addr, m) => deliverFrame addr m (setAssembler .hunt s)

/-- A whole byte inside a frame (R153): address, kind, or a later byte. -/
def frameByte (bytes : List Byte) (b : Byte) (s : State) : State :=
  let all := bytes ++ [b]
  match all with
  | [] => s
  | [_] => setAssembler (.inFrame all) s
  | _ :: kind :: _ =>
    match frameLength kind with
    | none => framingError s
    | some n => if all.length < n then setAssembler (.inFrame all) s else completeFrame all s

/-- A start byte in HUNT: IN_FRAME, and IDLE becomes RUN (R153, R156). -/
def startFrame (s : State) : State :=
  { s with link := { s.link with assembler := .inFrame []
                                 state := if s.link.state = .idle then .run else s.link.state } }

/-- One byte arrives; without its stop bit it is a broken byte (R151, R153). -/
def arrive (b : Byte) (stop : Bool) (s : State) : State :=
  match s.link.assembler with
  | .hunt => if stop && b == 0x7E then startFrame s else s
  | .inFrame bytes => if stop then frameByte bytes b s else framingError s

/-- BYTE_ARRIVAL (R153). -/
def execByteArrival (b : Byte) (stop : Bool) (s : State) : Host.Outcome State Fault Refusal :=
  event (fun t => driveHold (arrive b stop t)) s

/-- The gap timer expires; it runs in IN_FRAME only (R154). -/
def expireGap (s : State) : State :=
  match s.link.assembler with
  | .hunt => s
  | .inFrame _ => framingError s

/-- GAP_TIMER_EXPIRY (R154). -/
def execGapTimerExpiry (s : State) : Host.Outcome State Fault Refusal := event expireGap s

/-- The head frame is offered to its channel's report queue, and leaves the buffer when it joins
(R160; a refused offer changes nothing, log 17). -/
def offerFrame (s : State) : State :=
  match s.link.holding with
  | [] => s
  | f :: rest =>
    match joinQueue (s.chan f.chan) f.msg with
    | none => s
    | some q =>
      let t := s.updChan f.chan fun ch => { ch with queue := q }
      { t with link := { t.link with holding := rest } }

/-- FRAME_OFFER (R160). -/
def execFrameOffer (s : State) : Host.Outcome State Fault Refusal :=
  event (fun t => driveHold (offerFrame t)) s

/-- An accepted SET STATION (R158). -/
def acceptStation (p : PortId) (i : ParamBlock) (c : Chan) (s : State) : State :=
  let st : Station := { address := BitVec.ofNat 7 i.p1.toNat, mask := BitVec.ofNat 7 i.p2.toNat }
  complete p .zero .none { s with link := { s.link with stations := s.link.stations.set c st } }

/-- SET STATION (R158). -/
def execSetStation (p : PortId) (s : State) : Host.Outcome State Fault Refusal :=
  event (issue p .setStation fun i t => withChannel i (acceptStation p i) t) s

/-- CLEAR LINK acts on the link: OVERRUN becomes RUN with the assembler in HUNT (R164). -/
def clearOverrun (l : Link) : Link :=
  match l.state with
  | .overrun => { l with state := .run, assembler := .hunt }
  | .run | .idle => l

/-- An accepted CLEAR LINK reports the state before and the frames held (R164). -/
def acceptClearLink (p : PortId) (s : State) : State :=
  complete p
    { ParamBlock.zero with p0 := lowByte s.link.state.code, p1 := lowByte s.link.holding.length }
    .none (driveHold { s with link := clearOverrun s.link })

/-- CLEAR LINK (R164). -/
def execClearLink (p : PortId) (s : State) : Host.Outcome State Fault Refusal :=
  event (issue p .clearLink fun _ t => acceptClearLink p t) s

end Sys2Proof.Machine
end

