-- ==== Sys2Proof/Machine/OverlayBuilder.lean ====
section
/-! DEFINITION. The Overlay Builder: what a build draws (R133 to R141), builds and swaps (R131, R142 to
R144, R148), SET STYLE (R130) and FETCH OVERLAY (R146). -/
namespace Sys2Proof.Machine

/-! ## Assembly of a frame -/

/-- The channel contributes to tiers 3 to 5 (R134). -/
def contributes (k : ChanSnapshot) : Bool := k.state == .tracking || k.state == .away

/-- The stage a channel is drawn in: for STALLED its return stage (R138). -/
def drawnStage (k : ChanSnapshot) : Stage :=
  match k.stage, k.ret with
  | .stalled, some .banding => .banding
  | .stalled, some .armed => .armed
  | .stalled, none => .armed
  | st, _ => st

/-- The stage holds anchors to draw: BANDING or HOLD (R139, R140). -/
def drawsAnchors (k : ChanSnapshot) : Bool :=
  contributes k && (drawnStage k == .banding || drawnStage k == .hold)

/-- Tier 1: the crosshair (R135). -/
def crosshairTier (st : Style) (c : Chan) (k : ChanSnapshot) : List Stroke :=
  if k.state = .tracking then
    [{ shape := .crosshair k.snapped st.form, chan := c, live := true }]
  else []

/-- Tier 2: the snap marker (R135). -/
def markerTier (c : Chan) (k : ChanSnapshot) : List Stroke :=
  match k.state, k.hitKind with
  | .tracking, some kind => [{ shape := .marker k.snapped kind, chan := c, live := true }]
  | _, _ => []

/-- The band of an open figure, from its anchors to the snapped point (R136). -/
def bandShape (t : Template) (anchors : List Point) (p : Point) (pat : Pattern) : Option Shape :=
  match t, anchors with
  | .line, a :: _ => some (.segment a p pat)
  | .rect, a :: _ => some (.rectangle a p pat)
  | .circle, a :: _ => some (.circle a p pat)
  | .arc3, [a] => some (.segment a p pat)
  | .arc3, a :: b :: _ => some (.arc a b p pat)
  | .polyline, a :: rest => some (.segment ((a :: rest).getLastD a) p pat)
  | _, [] => none
  | .none, _ => none

/-- The stroke of a held figure, from its anchors alone (R137). -/
def heldShape (t : Template) (anchors : List Point) : Option Shape :=
  match t, anchors with
  | .line, a :: b :: _ => some (.segment a b .solid)
  | .rect, a :: b :: _ => some (.rectangle a b .solid)
  | .circle, a :: b :: _ => some (.circle a b .solid)
  | .arc3, a :: b :: d :: _ => some (.arc a b d .solid)
  | _, _ => none

/-- Tier 3: the band of an open figure or the completed figure of a held one (R136, R137). -/
def figureTier (st : Style) (c : Chan) (k : ChanSnapshot) : List Stroke :=
  if contributes k = false then []
  else
    match drawnStage k with
    | .banding =>
      ((bandShape k.template k.anchors k.snapped st.band).map fun sh =>
        ({ shape := sh, chan := c, live := true } : Stroke)).toList
    | .hold =>
      ((heldShape k.template k.anchors).map fun sh =>
        ({ shape := sh, chan := c, live := false } : Stroke)).toList
    | .idle | .armed | .stalled => []

/-- The segments from each point of a list to the next (R139). -/
def segments (c : Chan) : List Point → List Stroke
  | a :: b :: rest =>
    { shape := .segment a b .solid, chan := c, live := false } :: segments c (b :: rest)
  | _ => []

/-- Tier 4: the committed segments of a polyline (R139). -/
def segmentTier (c : Chan) (k : ChanSnapshot) : List Stroke :=
  if drawsAnchors k && k.template == .polyline then segments c k.anchors else []

/-- Tier 5: the anchor ticks (R140). -/
def tickTier (st : Style) (c : Chan) (k : ChanSnapshot) : List Stroke :=
  if drawsAnchors k && st.ticks then
    k.anchors.map fun a => { shape := .tick a, chan := c, live := false }
  else []

/-- Every stroke a build would place, in order: tier by tier, channel 0 first (R133). -/
def allStrokes (n : Snapshot) : List Stroke :=
  let k0 := n.chans.ch0
  let k1 := n.chans.ch1
  crosshairTier n.style .c0 k0 ++ crosshairTier n.style .c1 k1 ++
    (markerTier .c0 k0 ++ markerTier .c1 k1) ++
    (figureTier n.style .c0 k0 ++ figureTier n.style .c1 k1) ++
    (segmentTier .c0 k0 ++ segmentTier .c1 k1) ++
    (tickTier n.style .c0 k0 ++ tickTier n.style .c1 k1)

/-- The frame a build makes from its snapshot: at most 48 strokes (R128, R141). -/
def assemble (n : Snapshot) : Frame where
  number := n.number
  gen := n.gen
  truncated := decide (Config.frameStrokes < (allStrokes n).length)
  blank := ⟨n.chans.ch0.state == .resting, n.chans.ch1.state == .resting⟩
  strokes := (allStrokes n).take Config.frameStrokes

/-! ## Builds, swaps and pins -/

/-- The snapshot of a channel (R88, R131). -/
def snapChannel (ch : Channel) : ChanSnapshot where
  state := ch.state
  snapped := ch.cursor.snapped
  hitKind := ch.cursor.hit.map Hit.kind
  stage := ch.stage
  template := ch.template
  target := ch.target
  anchors := ch.anchors
  ret := ch.ret

/-- What a build starting now copies (R131). -/
def takeSnapshot (s : State) : Snapshot where
  number := s.overlay.frameNo + 1
  gen := s.view.gen
  style := s.overlay.style
  chans := ⟨snapChannel s.chans.ch0, snapChannel s.chans.ch1⟩

/-- A build starts into a FREE buffer, the first of the two that is FREE (R131, R143; log 11). -/
def startBuild (s : State) : State :=
  let o := s.overlay
  let n := takeSnapshot s
  if o.bufX = .free then
    { s with overlay := { o with bufX := .building n, frameNo := n.number } }
  else if o.bufY = .free then
    { s with overlay := { o with bufY := .building n, frameNo := n.number } }
  else s

/-- The frame of a READY buffer. -/
def Buffer.readyFrame : Buffer → Option Frame
  | .ready f => some f
  | .free | .building _ | .front _ | .frontPinned _ => none

/-- The frame of a pinned buffer. -/
def Buffer.pinnedFrame : Buffer → Option Frame
  | .frontPinned f => some f
  | .free | .building _ | .front _ | .ready _ => none

/-- The frame of a FRONT buffer that no fetch reads. -/
def Buffer.frontFrame : Buffer → Option Frame
  | .front f => some f
  | .free | .building _ | .frontPinned _ | .ready _ => none

/-- What a swap makes of a buffer: READY becomes FRONT, either FRONT state becomes FREE (R127, R144, R148). -/
def swapBuffer : Buffer → Buffer
  | .ready f => .front f
  | .front _ | .frontPinned _ => .free
  | .free => .free
  | .building n => .building n

/-- The swap: the READY buffer becomes the front, the old front FREE. -/
def swap (s : State) : State :=
  { s with overlay := { s.overlay with bufX := swapBuffer s.overlay.bufX
                                       bufY := swapBuffer s.overlay.bufY } }

/-- A buffer is READY. -/
def anyReady (o : Overlay) : Bool := o.bufX.readyFrame.isSome || o.bufY.readyFrame.isSome

/-- A buffer is FRONT_PINNED. -/
def anyPinned (o : Overlay) : Bool := o.bufX.pinnedFrame.isSome || o.bufY.pinnedFrame.isSome

/-- A build is in progress in the buffer. -/
def Buffer.isBuilding : Buffer → Bool
  | .building _ => true
  | .free | .ready _ | .front _ | .frontPinned _ => false

/-- A buffer is BUILDING. -/
def anyBuilding (o : Overlay) : Bool := o.bufX.isBuilding || o.bufY.isBuilding

/-- One FSYNC (R144). -/
def frameSync (s : State) : State :=
  let o := s.overlay
  if anyReady o then
    if anyPinned o then raise .frameRepeat { s with overlay := { o with swapPending := true } }
    else startBuild (swap s)
  else if anyBuilding o then raise .frameRepeat s
  else raise .frameRepeat (startBuild s)

/-- FSYNC (R144). -/
def execFsync (s : State) : Host.Outcome State Fault Refusal := event frameSync s

/-- The frame being read, if the front is pinned. -/
def pinned (s : State) : Option Frame :=
  match s.overlay.bufX.pinnedFrame with
  | some f => some f
  | none => s.overlay.bufY.pinnedFrame

/-- What a release without a swap makes of a buffer (R148). -/
def unpinBuffer : Buffer → Buffer
  | .frontPinned f => .front f
  | .free => .free
  | .building n => .building n
  | .ready f => .ready f
  | .front f => .front f

/-- The release of a pin makes a swap: swap-pending is set and the front is pinned (R148). -/
def swapsAtRelease (s : State) : Bool := s.overlay.swapPending && anyPinned s.overlay

/-- The release of the pin: FRONT again, or the pending swap and its build. Without a pin nothing
changes (R148). -/
def releasePin (s : State) : State :=
  if swapsAtRelease s then
    let t := swap s
    startBuild { t with overlay := { t.overlay with swapPending := false } }
  else
    { s with overlay := { s.overlay with bufX := unpinBuffer s.overlay.bufX
                                         bufY := unpinBuffer s.overlay.bufY } }

/-- The completion of a build in a buffer (R142). -/
def finishBuffer : Buffer → Buffer
  | .building n => .ready (assemble n)
  | .free => .free
  | .ready f => .ready f
  | .front f => .front f
  | .frontPinned f => .frontPinned f

/-- The frame being built has TRUNCATED set (R141). -/
def truncates : Buffer → Bool
  | .building n => (assemble n).truncated
  | .free | .ready _ | .front _ | .frontPinned _ => false

/-- The completion of the build in progress, if there is one (R142). -/
def completeBuild (s : State) : State :=
  raiseIf (truncates s.overlay.bufX || truncates s.overlay.bufY) .frameTruncated
    { s with overlay := { s.overlay with bufX := finishBuffer s.overlay.bufX
                                         bufY := finishBuffer s.overlay.bufY } }

/-- BUILD_COMPLETION (R142). -/
def execBuildCompletion (s : State) : Host.Outcome State Fault Refusal := event completeBuild s

/-! ## SET STYLE and FETCH OVERLAY -/

/-- The style that parameters name; their codes have been checked (R130). -/
def styleOf (i : ParamBlock) : Style where
  form := (CrosshairForm.ofCode i.p0.toNat).getD .full
  ticks := i.p1 == 1
  band := (Pattern.ofCode i.p2.toNat).getD .solid

/-- SET STYLE (R130). -/
def execSetStyle (p : PortId) (s : State) : Host.Outcome State Fault Refusal :=
  event (issue p .setStyle fun i t =>
    complete p .zero .none { t with overlay := { t.overlay with style := styleOf i } }) s

/-- What a fetch makes of a buffer: FRONT becomes FRONT_PINNED (R146). -/
def pinBuffer : Buffer → Buffer
  | .front f => .frontPinned f
  | .free => .free
  | .building n => .building n
  | .ready f => .ready f
  | .frontPinned f => .frontPinned f

/-- The frame a fetch pins: that of the FRONT buffer. -/
def frontFrame (s : State) : Option Frame :=
  match s.overlay.bufX.frontFrame with
  | some f => some f
  | none => s.overlay.bufY.frontFrame

/-- An accepted FETCH OVERLAY: the front is pinned and read, or an EMPTY header is composed (R146). The
command keeps the frame number and stroke count it will report (log 9). -/
def acceptFetch (p : PortId) (i : ParamBlock) (s : State) : State :=
  match frontFrame s with
  | some f =>
    updCmd p (fun c => { c with frameNo := f.number, strokes := f.strokes.length }) <|
      startDataOut p .fetchOverlay i (1 + f.strokes.length) f.header
        { s with overlay := { s.overlay with bufX := pinBuffer s.overlay.bufX
                                             bufY := pinBuffer s.overlay.bufY } }
  | none =>
    updCmd p (fun c => { c with frameNo := s.overlay.frameNo, strokes := 0 }) <|
      startDataOut p .fetchOverlay i 1
        (headerWords s.overlay.frameNo s.view.gen 0 false ⟨false, false⟩ true) s

/-- FETCH OVERLAY (R146). -/
def execFetchOverlay (p : PortId) (s : State) : Host.Outcome State Fault Refusal :=
  event (issue p .fetchOverlay fun i t => acceptFetch p i t) s

/-- The outputs of FETCH OVERLAY (R147, R149, R195). -/
def fetchOutputs (c : Progress) (swapped : Bool) (remaining : Nat) : ParamBlock where
  p0 := lowByte c.frameNo.toNat
  p1 := highByte c.frameNo.toNat
  p2 := lowByte c.strokes
  p3 := if swapped then 1 else 0
  count := lowByte remaining

end Sys2Proof.Machine
end

