-- ==== Sys2Proof/Machine/Table.lean ====
section
/-! DEFINITION. The Snap Table Controller: the table commands (R32 to R37), the records they take, the
start and the completion of a batch (R22 to R31), and the end of start-up (R39). -/
namespace Sys2Proof.Machine

/-! ## Records of the table commands -/

/-- A record of Port A's table command stands: the phase ends with the last one, else the port turns to
the next record (R34, R35, R173). -/
def recordStands (s : State) : State :=
  let t := countRecord .a s
  match (t.port .a).cmd with
  | none => t
  | some c => if c.total ≤ c.moved then endTablePhase .none t else openRecord .a t

/-- A slot is reserved when fewer than 1024 are USED or reserved (R20). -/
def slotFree (s : State) : Bool :=
  decide (s.stc.table.length + s.stc.reserved < Config.tableSlots)

/-- One more reservation (R20). -/
def reserveSlot (s : State) : State :=
  { s with stc := { s.stc with reserved := s.stc.reserved + 1 } }

/-- The last word of an entry record has arrived (R20, R33, R34). -/
def takeEntry (words : List Word) (s : State) : State :=
  match parseEntry words with
  | none => endTablePhase .record s
  | some e =>
    if slotFree s then recordStands (joinItem (.insert e) (reserveSlot s))
    else endTablePhase .full s

/-- The last word of a removal record has arrived (R35). -/
def takeRemoval (words : List Word) (s : State) : State :=
  match parseRemoval words with
  | none => endTablePhase .record s
  | some (h, k) => recordStands (joinItem (.remove h k) s)

/-- The last word of a window record has arrived; the channel is that of the copied parameters (R36). -/
def takeWindow (input : ParamBlock) (words : List Word) (s : State) : State :=
  match parseWindow words, chanOfByte input.p0 with
  | some w, some c => recordStands (joinItem (.evict c w) s)
  | _, _ => endTablePhase .record s

/-! ## Applying a batch -/

/-- What a batch works on: table, windows and reservation count. -/
structure BatchWork where
  table : List Entry
  windows : PerChan Window
  reserved : Nat
deriving DecidableEq, Repr

/-- An entry's identity is its handle, snap kind and point (R16). -/
def sameIdentity (a b : Entry) : Bool :=
  a.handle == b.handle && a.kind == b.kind && a.point == b.point

/-- A seat mask reduced by the windows at a point (R26). -/
def reduceMask (w : PerChan Window) (e : Entry) : PerChan Bool :=
  ⟨e.seats.ch0 && w.ch0.contains e.point, e.seats.ch1 && w.ch1.contains e.point⟩

/-- The mask holds a seat. -/
def anySeat (m : PerChan Bool) : Bool := m.ch0 || m.ch1

/-- Merging an item into the entry of its identity: masks joined, class and layer replaced (R26). -/
def mergeEntry (item : Entry) (mask : PerChan Bool) (e : Entry) : Entry :=
  if sameIdentity e item then
    { e with seats := ⟨e.seats.ch0 || mask.ch0, e.seats.ch1 || mask.ch1⟩,
             cls := item.cls, layer := item.layer }
  else e

/-- An INSERT item, its reservation released in every case (R26). -/
def applyInsert (item : Entry) (b : BatchWork) : BatchWork × TableCounts :=
  let mask := reduceMask b.windows item
  let b' := { b with reserved := b.reserved - 1 }
  if anySeat mask = false then (b', { TableCounts.zero with outside := 1 })
  else if b.table.any (sameIdentity item) then
    ({ b' with table := b.table.map (mergeEntry item mask) }, { TableCounts.zero with merged := 1 })
  else
    ({ b' with table := b.table ++ [{ item with seats := mask }] },
     { TableCounts.zero with added := 1 })

/-- The entries a REMOVE item names (R27). -/
def removeMatches (h : Word) (k : Option SnapKind) (e : Entry) : Bool :=
  e.handle == h && (match k with | none => true | some k' => e.kind == k')

/-- A REMOVE item (R27). -/
def applyRemove (h : Word) (k : Option SnapKind) (b : BatchWork) : BatchWork × TableCounts :=
  ({ b with table := b.table.filter fun e => !removeMatches h k e },
   { TableCounts.zero with removed := (b.table.filter (removeMatches h k)).length })

/-- An EVICT for a channel takes its bit from this entry (R28). -/
def losesBit (c : Chan) (w : Window) (e : Entry) : Bool :=
  e.seats.get c && !w.contains e.point

/-- An EVICT item: the window is replaced, bits outside it are cleared, entries left without a bit are
freed (R28). -/
def applyEvict (c : Chan) (w : Window) (b : BatchWork) : BatchWork × TableCounts :=
  let strip := fun (e : Entry) =>
    if losesBit c w e then { e with seats := e.seats.set c false } else e
  ({ b with windows := b.windows.set c w,
            table := (b.table.map strip).filter fun e => anySeat e.seats },
   { TableCounts.zero with
       cleared := (b.table.filter (losesBit c w)).length,
       freed := (b.table.filter fun e => losesBit c w e && !anySeat (strip e).seats).length })

/-- A CLEAR item frees every USED slot (R29). -/
def applyClear (b : BatchWork) : BatchWork × TableCounts :=
  ({ b with table := [] }, { TableCounts.zero with freed := b.table.length })

/-- One item, on the table and windows as the items before it left them (R25). -/
def applyItem (k : EditKind) (b : BatchWork) : BatchWork × TableCounts :=
  match k with
  | .insert e => applyInsert e b
  | .remove h k' => applyRemove h k' b
  | .evict c w => applyEvict c w b
  | .clear => applyClear b

def TableCounts.add (a b : TableCounts) : TableCounts where
  added := a.added + b.added
  merged := a.merged + b.merged
  outside := a.outside + b.outside
  removed := a.removed + b.removed
  freed := a.freed + b.freed
  cleared := a.cleared + b.cleared

/-- The items of a batch one after another, with what the command in progress is credited; the counts
of an abandoned command are not reported (R25, R32, R38). -/
def applyItems : List EditItem → BatchWork → BatchWork × TableCounts
  | [], b => (b, .zero)
  | i :: rest, b =>
    let r := applyItem i.kind b
    let r' := applyItems rest r.1
    (r'.1, if i.owner = .inProgress then r.2.add r'.2 else r'.2)

/-! ## What a batch does to the channels -/

/-- The table offers channel `c` the entry a hit names, with `pt` as its point (R30). -/
def hitStands (table : List Entry) (c : Chan) (h : Hit) (pt : Point) : Bool :=
  table.any fun e =>
    e.handle == h.handle && e.kind == h.kind && e.point == pt && e.seats.get c

/-- The channel's hit is not offered any more (R30). -/
def hitLost (table : List Entry) (c : Chan) (r : CursorRecord) : Bool :=
  match r.hit with
  | none => false
  | some h => !hitStands table c h r.snapped

/-- A hit drop: hit absent, HIT_LOST, HIT_CHANGED_c, re-search flag (R30). -/
def dropHit (c : Chan) (s : State) : State :=
  if hitLost s.stc.table c (s.chan c).cursor then
    setFlag c <| raise (.hitChanged c) <|
      s.updChan c fun ch => { ch with cursor := { ch.cursor with hit := none, hitLost := true } }
  else s

/-- The item asks for a search of channel `c`: an EVICT for it, or a CLEAR (R31). -/
def asksSearch (c : Chan) (i : EditItem) : Bool :=
  match i.kind with
  | .evict d _ => d == c
  | .clear => true
  | .insert _ | .remove _ _ => false

/-- The re-search flags of a batch (R31). -/
def flagBatch (c : Chan) (batch : List EditItem) (s : State) : State :=
  if batch.any (asksSearch c) then setFlag c s else s

/-- The counts of a batch are credited to the table command in progress (R25, R32). -/
def credit (n : TableCounts) (s : State) : State :=
  updCmd .a (fun c => { c with counts := c.counts.add n }) s

/-- The table, the windows and the reservations as the batch leaves them (R25). -/
def storeBatch (b : BatchWork) (s : State) : State :=
  { s with stc := { s.stc with table := b.table, windows := b.windows, reserved := b.reserved,
                               batch := [] } }

/-- The turn passes to the waiting searches, and the access state follows the queue (R23). -/
def passTurn (s : State) : State :=
  let t := releaseWaiting s
  { t with stc := { t.stc with access := if t.stc.queue.isEmpty then .opened else .draining } }

/-- The completion of the batch in progress, all its effects together (R23, R25, R30 to R32). -/
def completeBatch (s : State) : State :=
  let r := applyItems s.stc.batch
    { table := s.stc.table, windows := s.stc.windows, reserved := s.stc.reserved }
  let t := credit r.2 (storeBatch r.1 s)
  finishTable <| passTurn <|
    flagBatch .c1 s.stc.batch <| flagBatch .c0 s.stc.batch <| dropHit .c1 <| dropHit .c0 t

/-! ## Meanings -/

/-- LOAD CANDIDATES (R34). -/
def execLoadCandidates (p : PortId) (s : State) : Host.Outcome State Fault Refusal :=
  event (issue p .loadCandidates fun i t => startDataIn p .loadCandidates i i.records t) s

/-- REMOVE CANDIDATES (R35). -/
def execRemoveCandidates (p : PortId) (s : State) : Host.Outcome State Fault Refusal :=
  event (issue p .removeCandidates fun i t => startDataIn p .removeCandidates i i.records t) s

/-- SET WINDOW (R36). -/
def execSetWindow (p : PortId) (s : State) : Host.Outcome State Fault Refusal :=
  event (issue p .setWindow fun i t => startDataIn p .setWindow i 1 t) s

/-- An accepted CLEAR TABLE: its port is BUSY, and its item joins the queue or waits for room (R37). -/
def acceptClear (p : PortId) (i : ParamBlock) (s : State) : State :=
  let t := s.updPort p fun q =>
    { q with state := .busy, cmd := some (.start .clearTable i 0 []) }
  if s.stc.queue.length < Config.editQueueItems then joinItem .clear t
  else updCmd p (fun c => { c with clearWaiting := true }) t

/-- CLEAR TABLE (R37). -/
def execClearTable (p : PortId) (s : State) : Host.Outcome State Fault Refusal :=
  event (issue p .clearTable fun i t => acceptClear p i t) s

/-- BATCH_START (R22): the start that is due, if one is. -/
def execBatchStart (s : State) : Host.Outcome State Fault Refusal :=
  .next (driveAttention s (startBatch s))

/-- BATCH_COMPLETION (R25): of the batch in progress, if one is being applied. -/
def execBatchCompletion (s : State) : Host.Outcome State Fault Refusal :=
  event (fun t => if t.stc.access = .applying then completeBatch t else t) s

/-- A port leaves start-up with its window as device reset left it (R181). -/
def leaveStartUp (q : PortState) : PortState :=
  if q.state = .busy ∧ q.cmd = none then { q with state := .ready } else q

/-- The end of start-up: every slot FREE, the table OPEN, waiting searches released, both ports READY
(R39, R181; log 8). -/
def endStartUp (s : State) : State :=
  let t := releaseWaiting s
  { t with stc := { t.stc with table := [], access := .opened },
           ports := ⟨leaveStartUp t.ports.pa, leaveStartUp t.ports.pb⟩ }

/-- END_OF_INITIALIZATION (R39). -/
def execEndOfInitialization (s : State) : Host.Outcome State Fault Refusal :=
  event (fun t => if t.stc.access = .initializing then endStartUp t else t) s

end Sys2Proof.Machine
end

