-- ==== Sys2Proof/Machine/ViewUnit.lean ====
section
/-! DEFINITION. The View Unit: SET VIEW and SET GRID and the records they take (R2 to R12). -/
namespace Sys2Proof.Machine

/-- A search in flight is marked stale by a view change; one marked RESET stays so (R7). -/
def markView : Search → Search
  | .searching b .reset i => .searching b .reset i
  | .searching b .none i => .searching b .view i
  | .searching b .view i => .searching b .view i
  | .waiting b g => .waiting b g
  | .quiet => .quiet

/-- A view change acts on a channel: its re-search flag, and its search in flight (R6, R7). The stored
raw tablet point does not change: the next search maps it under the view then current. -/
def viewChannel (c : Chan) (s : State) : State :=
  setFlag c <| s.updChan c fun ch => { ch with search := markView ch.search }

/-- The outputs of SET VIEW: the current view generation and the remaining count (R5, R195). -/
def viewOutputs (s : State) (remaining : Byte) : ParamBlock :=
  { p0 := s.view.gen, p1 := 0, p2 := 0, p3 := 0, count := remaining }

/-- An accepted view record (R5). -/
def acceptView (v : Coord × Coord × Word × BitVec 4) (s : State) : State :=
  viewChannel .c1 <| viewChannel .c0 <| raise .viewChanged
    { s with view := { ox := v.1, oy := v.2.1, n := v.2.2.1, shift := v.2.2.2,
                       gen := s.view.gen + 1 } }

/-- The last word of a view record has arrived (R4, R5). -/
def takeView (p : PortId) (words : List Word) (s : State) : State :=
  match parseView words with
  | none => complete p (viewOutputs s 0) .param s
  | some v =>
    let t := acceptView v s
    complete p (viewOutputs t 0) .none t

/-- The only output of the other parameter-record commands: the remaining count (R195). -/
def remainingOutputs (n : Byte) : ParamBlock := { p0 := 0, p1 := 0, p2 := 0, p3 := 0, count := n }

/-- An accepted grid record (R11). -/
def acceptGrid (g : Grid) (s : State) : State :=
  setFlag .c1 <| setFlag .c0 { s with grid := g }

/-- The last word of a grid record has arrived (R11). -/
def takeGrid (p : PortId) (words : List Word) (s : State) : State :=
  match parseGrid words with
  | none => complete p (remainingOutputs 0) .param s
  | some g => complete p (remainingOutputs 0) .none (acceptGrid g s)

/-- SET VIEW (R4, R5). -/
def execSetView (p : PortId) (s : State) : Host.Outcome State Fault Refusal :=
  event (issue p .setView fun i t => startDataIn p .setView i 1 t) s

/-- SET GRID (R11). -/
def execSetGrid (p : PortId) (s : State) : Host.Outcome State Fault Refusal :=
  event (issue p .setGrid fun i t => startDataIn p .setGrid i 1 t) s

end Sys2Proof.Machine
end

