-- ==== Sys2Proof/Machine/PortAccess.lean ====
section
/-! DEFINITION. The accesses of a port: DATA (R173, R174), STATUS (R168), CONTROL (R178, R179), PARAM and
COUNT (R166), the data-phase timeout (R177), the port's own commands (R176, R182), an unknown code
(R170), and device reset (R181). -/
namespace Sys2Proof.Machine

/-! ## DATA in a data-in phase -/

/-- A whole record has arrived and is handed to its command's block (R173, R197). -/
def takeRecord (p : PortId) (c : Progress) (words : List Word) (s : State) : State :=
  match c.op with
  | .loadCandidates => takeEntry words s
  | .removeCandidates => takeRemoval words s
  | .setWindow => takeWindow c.input words s
  | .setView => takeView p words s
  | .setGrid => takeGrid p words s
  | .setSnap => takeSettings p c.input words s
  | .clearTable | .setRest | .resetChannel | .readCursor | .armFigure | .cancelFigure
  | .releaseFigure | .clearStall | .readPicks | .flushPicks | .setPickThreshold | .setStation
  | .clearLink | .setStyle | .fetchOverlay | .readEvents | .clearEvents | .setEventMask
  | .setBurst | .identify => s

/-- A word is moved into the current record: DREQ is set again for the next word, or the record is
whole and DREQ waits for its block (R173). -/
def moveWordIn (p : PortId) (w : Word) (s : State) : State :=
  match (s.port p).cmd with
  | none => s
  | some c =>
    let words := c.words ++ [w]
    let t := updCmd p (fun d => { d with words := words }) <|
      s.updPort p fun q => { q with burstAttn := false }
    if words.length < recordWords c.op then t
    else takeRecord p c words (t.updPort p fun q => { q with dreq := false })

/-- DATA_WRITE (R173): a word of a data-in phase with DREQ set, else COLLIDE (R169). -/
def execDataWrite (p : PortId) (w : Word) (s : State) : Host.Outcome State Fault Refusal :=
  event (fun t =>
    if (t.port p).state = .dataIn ∧ (t.port p).dreq = true then moveWordIn p w t
    else collide p t) s

/-! ## DATA in a data-out phase -/

/-- The next record of a data-out phase is presented (R173). -/
def present (p : PortId) (words : List Word) (s : State) : State :=
  openRecord p (updCmd p (fun c => { c with words := words }) s)

/-- A pick record has been read to its last word (R120, R122). -/
def pickRead (p : PortId) (s : State) : State :=
  let t := removePick (countRecord p s)
  match (t.port p).cmd with
  | none => t
  | some c =>
    if c.total ≤ c.moved ∨ t.picks.records.isEmpty = true then
      complete p (pickOutputs c.moved t.picks.records.length 0) .none t
    else present p (headPickWords t) t

/-- A record of a frame has been read to its last word (R147, R148). -/
def frameRecordRead (p : PortId) (s : State) : State :=
  let t := countRecord p s
  match (t.port p).cmd with
  | none => t
  | some c =>
    if c.total ≤ c.moved then
      complete p (fetchOutputs c (swapsAtRelease t) 0) .none (releasePin t)
    else
      match pinned t with
      | some f => present p (f.record c.moved) t
      | none => t

/-- The last word of a data-out record has been read (R172, R173). -/
def recordRead (p : PortId) (op : Command) (s : State) : State :=
  match op with
  | .readPicks => pickRead p s
  | .fetchOverlay => frameRecordRead p s
  | .readCursor | .identify => complete p .zero .none s
  | .loadCandidates | .removeCandidates | .setWindow | .clearTable | .setGrid | .setSnap | .setRest
  | .resetChannel | .armFigure | .cancelFigure | .releaseFigure | .clearStall | .flushPicks
  | .setPickThreshold | .setStation | .clearLink | .setView | .setStyle | .readEvents
  | .clearEvents | .setEventMask | .setBurst => s

/-- The presented word is returned, and the following one is presented (R173). -/
def moveWordOut (p : PortId) (s : State) : State :=
  match (s.port p).cmd with
  | none => s
  | some c =>
    let t := updCmd p (fun d => { d with words := c.words.tail }) <|
      s.updPort p fun q => { q with burstAttn := false, readData := c.words.headD 0 }
    if c.words.length ≤ 1 then recordRead p c.op (t.updPort p fun q => { q with dreq := false })
    else t

/-- DATA_READ (R173): the presented word with DREQ set, else 0 and COLLIDE (R169; log 10). -/
def execDataRead (p : PortId) (s : State) : Host.Outcome State Fault Refusal :=
  event (fun t =>
    if (t.port p).state = .dataOut ∧ (t.port p).dreq = true then moveWordOut p t
    else (collide p t).updPort p fun q => { q with readData := 0 }) s

/-! ## The data-phase timeout -/

/-- What a command other than a table command reports at a timeout (R12, R41, R86, R123, R149, R177). -/
def timeoutOutputs (c : Progress) (s : State) : ParamBlock :=
  match c.op with
  | .setView => viewOutputs s 1
  | .readPicks => pickOutputs c.moved s.picks.records.length c.remaining
  | .fetchOverlay => fetchOutputs c (swapsAtRelease s) c.remaining
  | _ => remainingOutputs 1

/-- A FETCH OVERLAY that ends releases its pin; the other commands hold none (R148). -/
def releaseFor (op : Command) (s : State) : State :=
  match op with
  | .fetchOverlay => releasePin s
  | _ => s

/-- The data phase of a port times out (R177). -/
def timeOut (p : PortId) (s : State) : State :=
  match (s.port p).cmd with
  | none => s
  | some c =>
    if isTableCommand c.op then endTablePhase .timeout s
    else complete p (timeoutOutputs c s) .timeout (releaseFor c.op s)

/-- DATA_PHASE_TIMEOUT (R177): of a timer that runs, which is while DREQ is set. -/
def execDataPhaseTimeout (p : PortId) (s : State) : Host.Outcome State Fault Refusal :=
  event (fun t => if (t.port p).dreq then timeOut p t else t) s

/-! ## STATUS, PARAM and COUNT -/

/-- STATUS_READ (R168): the indications as they stood, then DONE is cleared. -/
def execStatusRead (p : PortId) (s : State) : Host.Outcome State Fault Refusal :=
  event (fun t => t.updPort p fun q =>
    { q with readData := wordOf (statusByte q), done := false }) s

/-- Store a value in a position of the window (R166). -/
def storePosition (pos : ParamPos) (v : Byte) (w : ParamBlock) : ParamBlock :=
  match pos with
  | .param0 => { w with p0 := v }
  | .param1 => { w with p1 := v }
  | .param2 => { w with p2 := v }
  | .param3 => { w with p3 := v }
  | .count => { w with count := v }

/-- PARAMETER_WRITE (R166): stored in READY, else ignored with COLLIDE. -/
def execParameterWrite (p : PortId) (pos : ParamPos) (v : Byte) (s : State) :
    Host.Outcome State Fault Refusal :=
  event (fun t =>
    if (t.port p).state = .ready then
      t.updPort p fun q => { q with window := storePosition pos v q.window }
    else collide p t) s

/-! ## CONTROL -/

/-- The command attention enable field of a CONTROL byte (R194). -/
def enableBit (v : Byte) : Bool := v.getLsbD 1

/-- The attention mode field of a CONTROL byte (R194). -/
def modeOf (v : Byte) : AttnMode := if v.getLsbD 2 then .edge else .level

/-- The soft reset field of a CONTROL byte (R194). -/
def resetField (v : Byte) : Bool := v.getLsbD 0

/-- An item of an abandoned command is credited to none (R38). -/
def orphan (i : EditItem) : EditItem := { i with owner := .abandoned }

/-- The command in progress is abandoned: its items stay and are applied, its pin is released (R38, R179). -/
def abandon (p : PortId) (s : State) : State :=
  match (s.port p).cmd with
  | none => s
  | some c =>
    if isTableCommand c.op then
      { s with stc := { s.stc with queue := s.stc.queue.map orphan, batch := s.stc.batch.map orphan } }
    else releaseFor c.op s

/-- The port itself at a soft reset: window, command, burst size and event state cleared, held in
RESET_HELD; the attention mode is the written one (R178, R179, R192). -/
def heldPort (raw : Bool) (v : Byte) (q : PortState) : PortState :=
  { q with
    window := .zero, state := .resetHeld, fault := .none, done := false, collide := false,
    dreq := false, cmd := none, burst := 1, burstAttn := false, attnEnable := false,
    mode := modeOf v, latched := withPickAvailable raw 0, mask := 0 }

/-- A port is in start-up: BUSY with no command in progress (R167). -/
def inStartUp (q : PortState) : Bool := q.state == .busy && q.cmd == none

/-- A write of CONTROL, by its soft reset field and the port state (R178); ignored with COLLIDE in
start-up (R181). -/
def writeControl (p : PortId) (v : Byte) (s : State) : State :=
  let q := s.port p
  if inStartUp q then collide p s
  else if resetField v then
    if q.state = .resetHeld then s.updPort p fun q => { q with mode := modeOf v }
    else (abandon p s).updPort p (heldPort s.pickRaw v)
  else if q.state = .resetHeld then
    s.updPort p fun q => { q with state := .ready, mode := modeOf v }
  else s.updPort p fun q => { q with attnEnable := enableBit v, mode := modeOf v }

/-- PORT_SOFT_RESET (R179): a write of CONTROL with soft reset 1. -/
def execPortSoftReset (p : PortId) (v : Byte) (s : State) : Host.Outcome State Fault Refusal :=
  event (writeControl p v) s

/-- SOFT_RESET_RELEASE (R178): a write of CONTROL with soft reset 0. -/
def execSoftResetRelease (p : PortId) (v : Byte) (s : State) : Host.Outcome State Fault Refusal :=
  event (writeControl p v) s

/-- COMMAND_ATTENTION_ENABLE (R178): a write of CONTROL outside soft reset. -/
def execCommandAttentionEnable (p : PortId) (v : Byte) (s : State) :
    Host.Outcome State Fault Refusal :=
  event (writeControl p v) s

/-- ATTENTION_MODE (R191): a write of CONTROL; the output follows the mode as `nextAttn` gives. -/
def execAttentionMode (p : PortId) (v : Byte) (s : State) : Host.Outcome State Fault Refusal :=
  event (writeControl p v) s

/-! ## The port's own commands -/

/-- SET BURST (R176). -/
def execSetBurst (p : PortId) (s : State) : Host.Outcome State Fault Refusal :=
  event (issue p .setBurst fun i t =>
    complete p .zero .none (t.updPort p fun q => { q with burst := BitVec.ofNat 6 i.p0.toNat })) s

/-- IDENTIFY (R182). -/
def execIdentify (p : PortId) (s : State) : Host.Outcome State Fault Refusal :=
  event (issue p .identify fun i t => startDataOut p .identify i 1 (identityWords p) t) s

/-- A write of a code that names no command: UNKNOWN at once in READY, else COLLIDE (R166, R170). -/
def issueUnknown (p : PortId) (s : State) : State :=
  if (s.port p).state ≠ .ready then collide p s else refuse p .unknown (accept p s)

/-- UNKNOWN_COMMAND (R170). A code that names a command is another row of the table (log 14). -/
def execUnknownCommand (p : PortId) (code : Byte) (s : State) : Host.Outcome State Fault Refusal :=
  if (commandOfCode code).isSome then .refused .illFormed else event (issueUnknown p) s

/-! ## Device reset -/

/-- DEVICE_RESET (R181 and the reset rules of every block): the part as after reset; the commands
that wait stay (log 18). -/
def execDeviceReset (s : State) : Host.Outcome State Fault Refusal :=
  .next { State.reset with pending := s.pending }

end Sys2Proof.Machine
end

