-- ==== Sys2Proof/Machine/Dispatch.lean ====
section
/-! DEFINITION. What each command does: one arm for each row of the table, each a direct call of its meaning. -/
namespace Sys2Proof.Machine

/-- The effect of a command on everything but the queue. -/
def exec (i : Instr) (s : State) : Host.Outcome State Fault Refusal :=
  match i with
  | .loadCandidates p => Sys2Proof.Machine.execLoadCandidates p s
  | .removeCandidates p => Sys2Proof.Machine.execRemoveCandidates p s
  | .setWindow p => Sys2Proof.Machine.execSetWindow p s
  | .clearTable p => Sys2Proof.Machine.execClearTable p s
  | .setGrid p => Sys2Proof.Machine.execSetGrid p s
  | .setSnap p => Sys2Proof.Machine.execSetSnap p s
  | .setRest p => Sys2Proof.Machine.execSetRest p s
  | .resetChannel p => Sys2Proof.Machine.execResetChannel p s
  | .readCursor p => Sys2Proof.Machine.execReadCursor p s
  | .armFigure p => Sys2Proof.Machine.execArmFigure p s
  | .cancelFigure p => Sys2Proof.Machine.execCancelFigure p s
  | .releaseFigure p => Sys2Proof.Machine.execReleaseFigure p s
  | .clearStall p => Sys2Proof.Machine.execClearStall p s
  | .readPicks p => Sys2Proof.Machine.execReadPicks p s
  | .flushPicks p => Sys2Proof.Machine.execFlushPicks p s
  | .setPickThreshold p => Sys2Proof.Machine.execSetPickThreshold p s
  | .setStation p => Sys2Proof.Machine.execSetStation p s
  | .clearLink p => Sys2Proof.Machine.execClearLink p s
  | .setView p => Sys2Proof.Machine.execSetView p s
  | .setStyle p => Sys2Proof.Machine.execSetStyle p s
  | .fetchOverlay p => Sys2Proof.Machine.execFetchOverlay p s
  | .readEvents p => Sys2Proof.Machine.execReadEvents p s
  | .clearEvents p => Sys2Proof.Machine.execClearEvents p s
  | .setEventMask p => Sys2Proof.Machine.execSetEventMask p s
  | .setBurst p => Sys2Proof.Machine.execSetBurst p s
  | .identify p => Sys2Proof.Machine.execIdentify p s
  | .unknownCommand p code => Sys2Proof.Machine.execUnknownCommand p code s
  | .dataWrite p w => Sys2Proof.Machine.execDataWrite p w s
  | .dataRead p => Sys2Proof.Machine.execDataRead p s
  | .statusRead p => Sys2Proof.Machine.execStatusRead p s
  | .portSoftReset p v => Sys2Proof.Machine.execPortSoftReset p v s
  | .softResetRelease p v => Sys2Proof.Machine.execSoftResetRelease p v s
  | .commandAttentionEnable p v => Sys2Proof.Machine.execCommandAttentionEnable p v s
  | .attentionMode p v => Sys2Proof.Machine.execAttentionMode p v s
  | .parameterWrite p pos v => Sys2Proof.Machine.execParameterWrite p pos v s
  | .deviceReset => Sys2Proof.Machine.execDeviceReset s
  | .endOfInitialization => Sys2Proof.Machine.execEndOfInitialization s
  | .fsync => Sys2Proof.Machine.execFsync s
  | .byteArrival b stop => Sys2Proof.Machine.execByteArrival b stop s
  | .gapTimerExpiry => Sys2Proof.Machine.execGapTimerExpiry s
  | .dataPhaseTimeout p => Sys2Proof.Machine.execDataPhaseTimeout p s
  | .restTimerExpiry c => Sys2Proof.Machine.execRestTimerExpiry c s
  | .pulseEnd p => Sys2Proof.Machine.execPulseEnd p s
  | .searchCompletion c => Sys2Proof.Machine.execSearchCompletion c s
  | .batchStart => Sys2Proof.Machine.execBatchStart s
  | .batchCompletion => Sys2Proof.Machine.execBatchCompletion s
  | .buildCompletion => Sys2Proof.Machine.execBuildCompletion s
  | .searchStart c => Sys2Proof.Machine.execSearchStart c s
  | .reSearch c => Sys2Proof.Machine.execReSearch c s
  | .reportTake c => Sys2Proof.Machine.execReportTake c s
  | .frameOffer => Sys2Proof.Machine.execFrameOffer s

end Sys2Proof.Machine
end

