-- ==== Sys2Proof/Machine/Bus.lean ====
section
/-! DEFINITION. The accesses of a port by address: the eight positions of R194 and what each read leaves on
the sixteen data lines. -/
namespace Sys2Proof.Machine

/-- A read of a byte position leaves its value on the low eight data lines and 0 on the upper eight, and
changes nothing else (R166, R194). The table gives such a read no row (log 23). -/
def readBytePosition (p : PortId) (value : PortState → Byte) (s : State) :
    Host.Outcome State Fault Refusal :=
  event (fun t => t.updPort p fun q => { q with readData := (value q).setWidth 16 }) s

/-- A read of a port, by its address (R194): PARAM0 to PARAM3, COUNT, STATUS, FAULT, DATA. -/
def readAccess (p : PortId) (address : BitVec 3) (s : State) : Host.Outcome State Fault Refusal :=
  match address.toNat with
  | 0 => readBytePosition p (·.readPosition .param0) s
  | 1 => readBytePosition p (·.readPosition .param1) s
  | 2 => readBytePosition p (·.readPosition .param2) s
  | 3 => readBytePosition p (·.readPosition .param3) s
  | 4 => readBytePosition p (·.readPosition .count) s
  | 5 => exec (.statusRead p) s
  | 6 => readBytePosition p PortState.readFault s
  | _ => exec (.dataRead p) s

/-- A write of a port, by its address and the sixteen data lines (R194). -/
def writeAccess (p : PortId) (address : BitVec 3) (lines : Word) (s : State) :
    Host.Outcome State Fault Refusal :=
  exec (writeRow p address lines) s

end Sys2Proof.Machine
end

