-- ==== Sys2Proof/Safety.lean ====
section
/-! DEFINITION. What the guide says always holds of the part: one predicate for each block, in the terms
the claims use, and the states in which no start is due. -/
namespace Sys2Proof.Machine

/-- No start is due: no search has been granted the table without having entered SEARCHING, and no
batch is to start. In such a state `settle` changes nothing. -/
def NothingDue (s : State) : Prop :=
  granted (s.chan .c0).search = false ∧ granted (s.chan .c1).search = false ∧ batchDue s = false

/-! ## Ports (R167, R173, R176) -/

/-- A port state, its command and its data phase agree: a command is in progress exactly in BUSY (after
start-up), DATA_IN and DATA_OUT, it is in the role of port `p`, and DREQ and burst attention belong to a
data phase. -/
def PortState.Wf (p : PortId) (q : PortState) : Prop :=
  (q.state = .ready ∨ q.state = .resetHeld → q.cmd = none) ∧
  (q.state = .dataIn ∨ q.state = .dataOut → q.cmd ≠ none) ∧
  (∀ c, q.cmd = some c → inRole c.op p = true) ∧
  (q.dreq = true → q.state = .dataIn ∨ q.state = .dataOut) ∧
  (q.burstAttn = true → q.dreq = true) ∧
  1 ≤ q.burst.toNat ∧ q.burst.toNat ≤ 32

/-- Both ports are well formed. -/
def PortsWf (s : State) : Prop := s.ports.pa.Wf .a ∧ s.ports.pb.Wf .b

/-! ## Events and attention (R184, R185, R189, R190) -/

/-- The raw condition of PICK_AVAILABLE follows the Pick Queue, both latched sets follow it, and the
queue holds at most 32 records (R114, R118, R185). -/
def PicksWf (s : State) : Prop :=
  s.picks.records.length ≤ Config.pickQueueRecords ∧
  s.pickRaw = !s.picks.records.isEmpty ∧
  Event.pickAvailable.isIn s.ports.pa.latched = s.pickRaw ∧
  Event.pickAvailable.isIn s.ports.pb.latched = s.pickRaw

/-- An attention output agrees with its grounds: OFF exactly when none holds, and never PULSING in LEVEL
mode (R189, R190). -/
def PortState.AttnWf (q : PortState) : Prop :=
  (q.attn = .off ↔ anyGround q = false) ∧ (q.mode = .level → q.attn ≠ .pulsing)

/-- Both outputs agree with their grounds. -/
def AttentionWf (s : State) : Prop := s.ports.pa.AttnWf ∧ s.ports.pb.AttnWf

/-- The reserved positions of a port's latched set and mask are 0 (R184, R196). -/
def PortState.SetsWf (q : PortState) : Prop :=
  q.latched.getLsbD 7 = false ∧ q.latched.getLsbD 15 = false ∧
  q.mask.getLsbD 7 = false ∧ q.mask.getLsbD 15 = false

/-- Both ports' sets are well formed. -/
def EventSetsWf (s : State) : Prop := s.ports.pa.SetsWf ∧ s.ports.pb.SetsWf

/-! ## The table (R15 to R23) -/

/-- The search is in flight (R21). -/
def inFlightOf : Search → Nat
  | .searching _ _ _ => 1
  | .quiet | .waiting _ _ => 0

/-- The search waits without having been granted the table. -/
def waitsUngranted : Search → Bool
  | .waiting _ g => !g
  | .quiet | .searching _ _ _ => false

/-- The turns of the table (R21, R22, R39): the count of searches in flight is right, no search is in
flight while a batch is applied, the batch is empty in the other access states, the edit queue is empty
in OPEN, where no search waits ungranted, and in start-up nothing is queued and Port A is in start-up. -/
def TurnsWf (s : State) : Prop :=
  s.stc.inFlight = inFlightOf (s.chan .c0).search + inFlightOf (s.chan .c1).search ∧
  (s.stc.access = .applying → s.stc.inFlight = 0 ∧
    granted (s.chan .c0).search = false ∧ granted (s.chan .c1).search = false) ∧
  (s.stc.access ≠ .applying → s.stc.batch = []) ∧
  (s.stc.access = .opened → s.stc.queue = [] ∧
    waitsUngranted (s.chan .c0).search = false ∧ waitsUngranted (s.chan .c1).search = false) ∧
  (s.stc.access = .initializing → s.stc.queue = [] ∧ inStartUp (s.port .a) = true)

/-- An INSERT item (R19). -/
def isInsert (i : EditItem) : Bool :=
  match i.kind with
  | .insert _ => true
  | .remove _ _ | .evict _ _ | .clear => false

/-- The reservation count is the number of INSERT items not yet applied, and USED slots and
reservations never exceed 1024 (R20). -/
def CapacityWf (s : State) : Prop :=
  s.stc.reserved = ((s.stc.queue ++ s.stc.batch).filter isInsert).length ∧
  s.stc.table.length + s.stc.reserved ≤ Config.tableSlots

/-- The edit queue holds at most 16 items, and one place is left while Port A is ready for a word of a
table command (R19, R174). -/
def EditQueueWf (s : State) : Prop :=
  s.stc.queue.length ≤ Config.editQueueItems ∧
  ((s.port .a).dreq = true → ∀ c, (s.port .a).cmd = some c → isTableCommand c.op = true →
    s.stc.queue.length < Config.editQueueItems)

/-- An entry offers its point only to seats whose window contains it, and to one at least (R17). -/
def Entry.Wf (w : PerChan Window) (e : Entry) : Prop :=
  anySeat e.seats = true ∧
  (e.seats.ch0 = true → w.ch0.contains e.point = true) ∧
  (e.seats.ch1 = true → w.ch1.contains e.point = true)

/-- Every entry is well formed and no two share an identity (R16, R17). -/
def TableWf (s : State) : Prop :=
  (∀ e ∈ s.stc.table, e.Wf s.stc.windows) ∧
  s.stc.table.Pairwise fun a b => sameIdentity a b = false

/-! ## Channels -/

/-- No two plain motion reports stand next to each other (R71). -/
def noPlainPair : List Report → Bool
  | a :: b :: rest => (a.edge || b.edge) && noPlainPair (b :: rest)
  | _ => true

/-- A report queue holds at most 4 reports and no two plain motion reports next to each other (R71). -/
def Channel.QueueWf (ch : Channel) : Prop :=
  ch.queue.length ≤ Config.reportQueueReports ∧ noPlainPair ch.queue = true

/-- The rest timer runs in TRACKING only, and a DETACHED channel's re-search flag is clear (R45, R67). -/
def Channel.StateWf (ch : Channel) : Prop :=
  (ch.timer ≠ .stopped ↔ ch.state = .tracking) ∧ (ch.state = .detached → ch.flag = false)

/-- The cases a cursor record can show (R65). -/
def CursorRecord.Wf (r : CursorRecord) : Prop :=
  (r.basis = .hit ↔ (r.hit.isSome = true ∨ r.hitLost = true)) ∧
  (r.hitLost = true → r.hit = none) ∧
  (r.degraded = true → r.basis ≠ .hit) ∧
  (r.orthoApplied = true → r.basis ≠ .hit)

/-- Template, target count and completion action stand together, and the target count is the template's:
2, or 3 for ARC3, or the 2 to 16 a POLYLINE was armed with (R88, R89). -/
def Channel.armed (ch : Channel) : Prop :=
  ch.action ≠ none ∧ ∃ t, ch.target = some t ∧
    ((ch.template ∈ [.line, .rect, .circle] ∧ t = 2) ∨ (ch.template = .arc3 ∧ t = 3) ∨
     (ch.template = .polyline ∧ 2 ≤ t ∧ t ≤ Config.anchorListPoints))

/-- The anchor counts of an open figure (R92). -/
def Channel.bands (ch : Channel) : Prop :=
  1 ≤ ch.anchors.length ∧ ∀ t, ch.target = some t → ch.anchors.length < t

/-- A Figure Sequencer's stage, template, anchors, return stage and saved press agree (R88, R91, R92). -/
def Channel.FigureWf (ch : Channel) : Prop :=
  match ch.stage with
  | .idle =>
    ch.template = .none ∧ ch.target = none ∧ ch.action = none ∧ ch.anchors = [] ∧
      ch.ret = none ∧ ch.saved = none
  | .armed => ch.armed ∧ ch.anchors = [] ∧ ch.ret = none ∧ ch.saved = none
  | .banding => ch.armed ∧ ch.bands ∧ ch.ret = none ∧ ch.saved = none
  | .hold =>
    ch.armed ∧ 2 ≤ ch.anchors.length ∧ (∀ t, ch.target = some t → ch.anchors.length ≤ t) ∧
      ch.ret = none ∧ ch.saved = none
  | .stalled =>
    ch.armed ∧
      ((ch.ret = some .armed ∧ ch.anchors = []) ∨ (ch.ret = some .banding ∧ ch.bands))

/-- A predicate holds of both channels. -/
def BothChannels (P : Channel → Prop) (s : State) : Prop := P s.chans.ch0 ∧ P s.chans.ch1

/-! ## View, overlay and link -/

/-- The view record is one that R4 accepts: the mapping cannot overflow (R3). -/
def View.Wf (v : View) : Prop :=
  v.n ≠ 0 ∧ v.ox.toInt + farAddend v.n v.shift.toNat ≤ 2147483647 ∧
  v.oy.toInt + farAddend v.n v.shift.toNat ≤ 2147483647

/-- The grid record's pitches are from 1 to 16777216 (R10). -/
def Grid.Wf (g : Grid) : Prop := pitchOk g.px = true ∧ pitchOk g.py = true

/-- The state of a buffer without its contents (R127). -/
inductive BufferState where
  | free
  | building
  | ready
  | front
  | frontPinned
deriving DecidableEq, Repr

/-- The state of a buffer. -/
def Buffer.state : Buffer → BufferState
  | .free => .free
  | .building _ => .building
  | .ready _ => .ready
  | .front _ => .front
  | .frontPinned _ => .frontPinned

/-- The configurations of the two buffers, either buffer first (R127). -/
def bufferPairs : List (BufferState × BufferState) :=
  [(.free, .free), (.building, .free), (.ready, .free), (.front, .building), (.front, .ready),
   (.frontPinned, .building), (.frontPinned, .ready)]

/-- The frame of a buffer holds at most 48 strokes (R141). -/
def Buffer.FrameWf : Buffer → Prop
  | .free | .building _ => True
  | .ready f | .front f | .frontPinned f => f.strokes.length ≤ Config.frameStrokes

/-- The buffers are in one of the configurations of R127, swap-pending is set in the last only, and no
frame holds more than 48 strokes. -/
def OverlayWf (s : State) : Prop :=
  ((s.overlay.bufX.state, s.overlay.bufY.state) ∈ bufferPairs ∨
    (s.overlay.bufY.state, s.overlay.bufX.state) ∈ bufferPairs) ∧
  (s.overlay.swapPending = true → anyPinned s.overlay = true ∧ anyReady s.overlay = true) ∧
  s.overlay.bufX.FrameWf ∧ s.overlay.bufY.FrameWf

/-- The holding buffer holds at most two frames, HOLD has the level R162 gives it, and in IDLE nothing
is held and no frame is in progress (R156, R159). -/
def LinkWf (s : State) : Prop :=
  s.link.holding.length ≤ Config.holdingFrames ∧ s.link.hold = holdLevel s.link ∧
  (s.link.state = .idle → s.link.holding = [] ∧ s.link.assembler = .hunt)

/-! ## Words the claims are said in -/

/-- The other port. -/
def otherPort : PortId → PortId
  | .a => .b
  | .b => .a

/-- The other channel. -/
def otherChan : Chan → Chan
  | .c0 => .c1
  | .c1 => .c0

/-- Port `p` is READY with `w` in its window, and no start is due. -/
def Ready (p : PortId) (w : ParamBlock) (s : State) : Prop :=
  NothingDue s ∧ (s.port p).state = .ready ∧ (s.port p).window = w

/-- Both ports after an event: port `p` has become `q` and the other port is as it was, but for the
events `l` latched in both sets and for the attention outputs, which follow the grounds. -/
def PortsBecome (p : PortId) (q : PortState) (l : EventSet → EventSet) (s t : State) : Prop :=
  let latch := fun (old new : PortState) =>
    { new with latched := l new.latched
               attn := nextAttn old { new with latched := l new.latched } }
  t.port p = latch (s.port p) q ∧ t.port (otherPort p) = latch (s.port (otherPort p)) (s.port (otherPort p))

/-- Both ports after an event that touches no port: as they were, but for the latched events and for
the attention outputs. -/
def PortsKept (l : EventSet → EventSet) (s t : State) : Prop := PortsBecome .a (s.port .a) l s t

/-- Events latched into a set. -/
def latching (es : List Event) (set : EventSet) : EventSet :=
  es.foldl (fun l e => l ||| e.toSet) set

/-- A port whose command has completed with outputs and fault code (R172), COLLIDE as it stands. -/
def completedPort (q : PortState) (out : ParamBlock) (f : FaultCode) : PortState :=
  { q with window := out, fault := f, done := true, state := .ready, cmd := none,
           dreq := false, burstAttn := false }

/-- A port after a command that was accepted and completed in one event (R170, R172). -/
def servedPort (q : PortState) (out : ParamBlock) (f : FaultCode) : PortState :=
  completedPort { q with collide := false } out f

/-- A port after the acceptance of a command with a data phase: the first word of the first record is
ready, and it is the first word of a burst (R170, R173, R175). -/
def openedPort (q : PortState) (st : PortMode) (c : Progress) : PortState :=
  { q with state := st, cmd := some c, done := false, fault := .none, collide := false,
           dreq := true, burstAttn := true }

/-- What R195 and the command's chapter call a parameter out of range, COUNT apart. -/
def badParameter (op : Command) (w : ParamBlock) : Prop :=
  (op ∈ [.setWindow, .setSnap, .resetChannel, .readCursor, .armFigure, .cancelFigure, .releaseFigure,
      .clearStall, .setStation] ∧ 1 < w.p0.toNat) ∨
  (usedParams op < 1 ∧ w.p0 ≠ 0) ∨ (usedParams op < 2 ∧ w.p1 ≠ 0) ∨
  (usedParams op < 3 ∧ w.p2 ≠ 0) ∨ (usedParams op < 4 ∧ w.p3 ≠ 0) ∨
  (op = .setBurst ∧ (w.p0.toNat = 0 ∨ 32 < w.p0.toNat)) ∨
  (op = .setPickThreshold ∧ (w.p0.toNat = 0 ∨ 31 < w.p0.toNat)) ∨
  (op = .setStation ∧ (w.p1.toNat = 0 ∨ 127 < w.p1.toNat ∨ 127 < w.p2.toNat)) ∨
  (op = .releaseFigure ∧ 1 < w.p1.toNat) ∨
  (op = .setStyle ∧ (1 < w.p0.toNat ∨ 1 < w.p1.toNat ∨ 1 < w.p2.toNat)) ∨
  (op ∈ [.clearEvents, .setEventMask] ∧ (w.p0.getLsbD 7 = true ∨ w.p1.getLsbD 7 = true)) ∨
  (op = .armFigure ∧ (5 < w.p1.toNat ∨ (w.p1 = 5 ∧ (w.p2.toNat < 2 ∨ 16 < w.p2.toNat)) ∨
    (w.p1 ≠ 0 ∧ (w.p3.toNat < 1 ∨ 3 < w.p3.toNat))))

/-- The attention mode field of a CONTROL byte (R194). -/
def writtenMode (v : Byte) : AttnMode := if v.getLsbD 2 = true then .edge else .level

/-- A ground for attention: command attention (none), or the enabled latched event at a position (R189). -/
def ground (q : PortState) : Option Nat → Bool
  | none => q.attnEnable && (q.done || q.burstAttn)
  | some i => q.latched.getLsbD i && q.mask.getLsbD i

/-- The parameter byte that names a channel (R195). -/
def chanByte : Chan → Byte
  | .c0 => 0
  | .c1 => 1

/-- A port after the acceptance of a table command: as another data phase, but with DREQ and burst
attention withheld while the edit queue holds 16 items (R174). -/
def tablePhase (q : PortState) (c : Progress) (queued : Nat) : PortState :=
  if queued < 16 then openedPort q .dataIn c
  else { openedPort q .dataIn c with dreq := false, burstAttn := false }

/-- Items of the table command in progress are still to be applied, or its CLEAR waits (R32). -/
def awaitsItems (c : Progress) (s : State) : Prop :=
  (∃ i ∈ s.stc.queue ++ s.stc.batch, i.owner = .inProgress) ∨ c.clearWaiting = true

/-- A table command whose data phase has ended with fault `f`, while it waits BUSY (R32, R167). -/
def waitingPort (q : PortState) (c : Progress) (f : FaultCode) : PortState :=
  { q with state := .busy, dreq := false, burstAttn := false,
           cmd := some { c with ended := f, words := [] } }

/-- The Snap Table Controller after an item of the command in progress has joined the edit queue (R19, R22). -/
def withItem (k : EditKind) (c : TableController) : TableController :=
  { c with queue := c.queue ++ [{ kind := k, owner := .inProgress }],
           access := if c.access = .opened then .draining else c.access }

/-- A command whose record stands: counted, and one record further into the burst (R175). -/
def recordCounted (c : Progress) (burst : Nat) : Progress :=
  { c with moved := c.moved + 1, burstPos := (c.burstPos + 1) % burst, words := [] }

/-- Port A after a record of its table command stands: waiting BUSY after the last record, else ready for
the next one unless `queued` items fill the edit queue (R32, R173, R174). -/
def standingPort (q : PortState) (c : Progress) (queued : Nat) : PortState :=
  let d := recordCounted c q.burst.toNat
  if c.moved + 1 < c.total then
    { q with cmd := some d, dreq := decide (queued < 16),
             burstAttn := decide (queued < 16) && d.burstPos == 0 }
  else waitingPort q d .none

/-! ## The records a master reads (R193, R198) -/

/-- The snap kinds in the order of their codes, ENDPOINT 1 first (R193). -/
def kindsByCode : List SnapKind := [.endpoint, .midpoint, .center, .quadrant, .intersection, .node]

/-- The templates in the order of their codes, NONE 0 first (R193). -/
def templatesByCode : List Template := [.none, .line, .rect, .circle, .arc3, .polyline]

/-- The fault codes in the order of their values, NONE 0 first (R193). -/
def faultsByCode : List FaultCode := [.none, .unknown, .role, .param, .record, .full, .stage, .timeout]

/-- One bit of a word, as a number. -/
def flagBit (b : Bool) : Nat := if b then 1 else 0

/-- A drawing point in four words: x then y, low word first (R193). -/
def pointLayout (p : Point) : List Word :=
  [p.x.setWidth 16, (p.x >>> 16).setWidth 16, p.y.setWidth 16, (p.y >>> 16).setWidth 16]

/-- The last words of a cursor or pick record that shows a hit: handle, then kind and class; 0 when the
hit is absent (R198). -/
def hitLayout : Option Hit → List Word
  | none => [0, 0]
  | some h => [h.handle, BitVec.ofNat 16 (1 + kindsByCode.idxOf h.kind + 2 ^ 4 * h.cls.toNat)]

/-- The basis codes: FREE 0, GRID 1, HIT 2 (R193). -/
def basisNumber (b : ResultBasis) : Nat := [ResultBasis.free, .grid, .hit].idxOf b

/-- The cursor record of a channel, 15 words (R64, R198). -/
def cursorLayout (ch : Channel) : List Word :=
  let r := ch.cursor
  [BitVec.ofNat 16 ([ChanState.detached, .tracking, .resting, .away].idxOf ch.state +
      2 ^ 4 * [Stage.idle, .armed, .banding, .hold, .stalled].idxOf ch.stage +
      2 ^ 8 * (match ch.search with | .quiet => 0 | .waiting _ _ => 1 | .searching _ _ _ => 2) +
      2 ^ 12 * templatesByCode.idxOf ch.template),
   BitVec.ofNat 16 (ch.anchors.length + 2 ^ 8 * ch.target.getD 0),
   r.raw.x.setWidth 16, r.raw.y.setWidth 16] ++ pointLayout r.target ++ pointLayout r.snapped ++
  [BitVec.ofNat 16 (basisNumber r.basis + 2 ^ 2 * flagBit r.hit.isSome + 2 ^ 3 * flagBit r.degraded +
      2 ^ 4 * flagBit r.orthoApplied + 2 ^ 5 * flagBit r.hitLost + 2 ^ 8 * r.gen.toNat)] ++
  hitLayout r.hit

/-- A pick record, 11 words (R198). -/
def pickLayout (r : PickRecord) : List Word :=
  [BitVec.ofNat 16 ([Chan.c0, .c1].idxOf r.chan +
      2 * [RecordKind.point, .anchor, .done, .finish, .cancelled].idxOf r.kind +
      2 ^ 4 * templatesByCode.idxOf r.template + 2 ^ 8 * r.index),
   r.raw.x.setWidth 16, r.raw.y.setWidth 16] ++ pointLayout r.snapped ++
  [BitVec.ofNat 16 (basisNumber r.basis + 2 ^ 2 * flagBit r.hit.isSome + 2 ^ 8 * r.gen.toNat)] ++
  hitLayout r.hit ++ [r.frameNo]

/-- The header of a built frame, 3 words, EMPTY clear (R128, R198). -/
def headerLayout (f : Frame) : List Word :=
  [f.number, BitVec.ofNat 8 f.strokes.length ++ f.gen,
   BitVec.ofNat 16 (flagBit f.truncated + 2 * flagBit f.blank.ch0 + 2 ^ 2 * flagBit f.blank.ch1)]

/-- The stroke kind code, style field, snap kind field and points of a stroke (R129, R193, R198). -/
def shapeLayout (k : Shape) : Nat × Nat × Nat × List Point :=
  let pattern := [Pattern.solid, .dashed]
  match k with
  | .crosshair c f => (1, [CrosshairForm.full, .arms].idxOf f, 0, [c])
  | .marker p kind => (2, 0, 1 + kindsByCode.idxOf kind, [p])
  | .segment a b pat => (3, pattern.idxOf pat, 0, [a, b])
  | .rectangle a b pat => (4, pattern.idxOf pat, 0, [a, b])
  | .circle c r pat => (5, pattern.idxOf pat, 0, [c, r])
  | .arc a b c pat => (6, pattern.idxOf pat, 0, [a, b, c])
  | .tick p => (7, 0, 0, [p])

/-- A stroke record, 13 words, unused point slots 0 (R198). -/
def strokeLayout (k : Stroke) : List Word :=
  let (code, style, kind, points) := shapeLayout k.shape
  BitVec.ofNat 16 (code + 2 ^ 4 * [Chan.c0, .c1].idxOf k.chan + 2 ^ 5 * flagBit k.live +
      2 ^ 6 * style + 2 ^ 8 * kind) ::
    (points.flatMap pointLayout ++ List.replicate (12 - 4 * points.length) 0)

/-! ## The output positions of the commands that move records (R195) -/

/-- PARAM3 shows the ninth bits of four counts at its bits 0 to 3 and 0 elsewhere. -/
def ShowsNinthBits (p3 : Byte) (a b c d : Nat) : Prop :=
  ∀ i, p3.getLsbD i = [a.testBit 8, b.testBit 8, c.testBit 8, d.testBit 8].getD i false

/-- The outputs `o` show what the table command `c` reports (R34 to R37, R195). The remaining count of a
SET WINDOW whose record was refused is 0 (log 16). -/
def ShowsTable (c : Progress) (o : ParamBlock) : Prop :=
  let n := c.counts
  let left := c.total - c.moved
  (c.op = .loadCandidates →
    o.p0 = BitVec.ofNat 8 n.added ∧ o.p1 = BitVec.ofNat 8 n.merged ∧
    o.p2 = BitVec.ofNat 8 n.outside ∧ o.count = BitVec.ofNat 8 left ∧
    ShowsNinthBits o.p3 n.added n.merged n.outside left) ∧
  (c.op = .removeCandidates →
    o.p1 ++ o.p0 = BitVec.ofNat 16 n.removed ∧ o.p2 = 0 ∧ o.count = BitVec.ofNat 8 left ∧
    ShowsNinthBits o.p3 0 0 0 left) ∧
  (c.op = .setWindow →
    o.p1 ++ o.p0 = BitVec.ofNat 16 n.freed ∧ o.p3 ++ o.p2 = BitVec.ofNat 16 n.cleared ∧
    o.count = if c.ended = .timeout then 1 else 0) ∧
  (c.op = .clearTable →
    o.p1 ++ o.p0 = BitVec.ofNat 16 n.freed ∧ o.p2 = 0 ∧ o.p3 = 0 ∧ o.count = 0)

/-- The outputs `o` show what a READ PICKS reports: transferred, held, remaining (R122, R123, R195). -/
def ShowsPicks (transferred held remaining : Nat) (o : ParamBlock) : Prop :=
  o.p0 = BitVec.ofNat 8 transferred ∧ o.p1 = BitVec.ofNat 8 held ∧ o.p2 = 0 ∧
  o.count = BitVec.ofNat 8 remaining ∧ ShowsNinthBits o.p3 transferred 0 0 remaining

/-- The outputs `o` show what a FETCH OVERLAY reports: frame number, stroke count, whether a swap took
place, remaining (R147, R149, R195). -/
def ShowsFetch (number : Word) (strokes : Nat) (swapped : Bool) (remaining : Nat) (o : ParamBlock) : Prop :=
  o.p1 ++ o.p0 = number ∧ o.p2 = BitVec.ofNat 8 strokes ∧ o.p3 = (if swapped then 1 else 0) ∧
  o.count = BitVec.ofNat 8 remaining

/-! ## Ranking -/

/-- Entry `a` ranks before entry `b` for target `t`: class, distance, handle, kind code, x and y in turn
(R52). -/
def ranksBefore (t : Point) (a b : Entry) : Prop :=
  a.cls.toNat < b.cls.toNat ∨ (a.cls.toNat = b.cls.toNat ∧
  (distance a.point t < distance b.point t ∨ (distance a.point t = distance b.point t ∧
  (a.handle.toNat < b.handle.toNat ∨ (a.handle.toNat = b.handle.toNat ∧
  (a.kind.code < b.kind.code ∨ (a.kind.code = b.kind.code ∧
  (a.point.x.toInt < b.point.x.toInt ∨ (a.point.x.toInt = b.point.x.toInt ∧
  a.point.y.toInt < b.point.y.toInt)))))))))

end Sys2Proof.Machine
end

