-- ==== Sys2Proof/Certificates/Slice0/Obligations.lean ====
section
/-! DEFINITION. The statements for the provers, in the order of the guide's blocks. A statement about an
event has the premise that no start is due: `StartsComeFirst` carries it over to every state. A command
row has its port as operand (log 15), and `readData` is the model's register for what a read returned
(log 6). -/

open Sys2Proof Sys2Proof.Machine

/-! ## The machine -/

/-- Step takes the command at the front of the queue and answers what exec answers on the queue's rest;
on an empty queue the block idles (log 1). -/
def Obligations.StepRunsFrontCommand : Prop :=
  (∀ (c : Instr) (s : State), step { s with pending := c :: s.pending } = exec c s) ∧
  (∀ s : State, s.pending = [] → step s = .next s)

/-- The starts that are due come before any other event (log 3): a granted search has then entered
SEARCHING with its inputs fixed, a batch that was due is being applied, and no start is due any more. -/
def Obligations.StartsComeFirst : Prop :=
  (∀ (i : Instr) (s : State), i ≠ .deviceReset → i ≠ .batchStart → (∀ c, i ≠ .searchStart c) →
    exec i s = exec i (settle s)) ∧
  (∀ s : State, NothingDue (settle s)) ∧
  (∀ s : State, NothingDue s → settle s = s) ∧
  (∀ (s : State) (c : Chan) (b : SearchBasis), (s.chan c).search = .waiting b true →
    ((settle s).chan c).search = .searching b .none (fixInputs s c b) ∧
    ((settle s).chan c).flag = false) ∧
  (∀ s : State, batchDue s = true →
    (settle s).stc.access = .applying ∧ (settle s).stc.batch = s.stc.queue)

/-- No command stops the block: each row of the table answers a next state and leaves the queue alone.
Only UNKNOWN_COMMAND with a code that names a command, which is no row, is refused (log 14). An event in a
state where it cannot arise has no effect (log 2): a search start of a unit not granted the table, a batch
start that is not due, and, no start being due, a report taken with no report or the unit not QUIET, a
re-search that is not due, a completion of no search, batch, start-up or build, a frame offered from an
empty buffer (HOLD as its level has it), and an expiry or end of a timer, data phase or pulse that does not
run (R22, R25, R39, R44, R46, R56, R74, R80, R142, R154, R160, R177, R190). -/
def Obligations.EveryCommandAnswers : Prop :=
  (∀ (i : Instr) (s : State), (∀ p code, i = .unknownCommand p code → commandOfCode code = none) →
    ∃ t, exec i s = .next t ∧ t.pending = s.pending) ∧
  (∀ (p : PortId) (code : Byte) (s : State), commandOfCode code ≠ none →
    exec (.unknownCommand p code) s = .refused .illFormed) ∧
  (∀ (c : Chan) (s : State), (∀ b, (s.chan c).search ≠ .waiting b true) →
    exec (.searchStart c) s = .next s) ∧
  (∀ s : State,
    let idle := fun i => ∃ t, exec i s = .next t ∧ t = { s with ports := t.ports } ∧ PortsKept id s t
    ((s.stc.access ≠ .draining ∨ s.stc.queue = [] ∨ s.stc.inFlight ≠ 0) → idle .batchStart) ∧
    (NothingDue s →
      (∀ c, (s.chan c).search ≠ .quiet ∨ (s.chan c).queue = [] → idle (.reportTake c)) ∧
      (∀ c, (s.chan c).search ≠ .quiet ∨ (s.chan c).queue ≠ [] ∨ (s.chan c).flag = false →
        idle (.reSearch c)) ∧
      (∀ c, (∀ b m i, (s.chan c).search ≠ .searching b m i) → idle (.searchCompletion c)) ∧
      (s.stc.access ≠ .applying → idle .batchCompletion) ∧
      (s.stc.access ≠ .initializing → idle .endOfInitialization) ∧
      ((∀ d, s.overlay.bufX ≠ .building d) → (∀ d, s.overlay.bufY ≠ .building d) →
        idle .buildCompletion) ∧
      (s.link.holding = [] → s.link.hold = holdLevel s.link → idle .frameOffer) ∧
      (s.link.assembler = .hunt → idle .gapTimerExpiry) ∧
      (∀ c, (s.chan c).timer = .stopped → idle (.restTimerExpiry c)) ∧
      (∀ p, (s.port p).dreq = false → idle (.dataPhaseTimeout p)) ∧
      (∀ p, (s.port p).attn ≠ .pulsing → idle (.pulseEnd p))))

/-! ## Command Block Ports: the issue of a command -/

/-- A write to COMMAND of any code outside READY is ignored and sets COLLIDE. In READY, a code that names
no command completes with UNKNOWN, and a command outside the port's role with ROLE, at once, with 0 in all
five positions and no effect outside the port (R166, R169 to R171). -/
def Obligations.CommandIssueIsTurnedAway : Prop :=
  (∀ (p : PortId) (code : Byte) (s : State), NothingDue s → (s.port p).state ≠ .ready →
      ∃ t, exec (rowOfCode p code) s = .next t ∧
        PortsBecome p { s.port p with collide := true } id s t ∧ t = { s with ports := t.ports }) ∧
  (∀ (p : PortId) (s : State), NothingDue s → (s.port p).state = .ready →
      (∀ code : Byte, code ∉ Command.all.map Command.code →
        ∃ t, exec (.unknownCommand p code) s = .next t ∧
          PortsBecome p (servedPort (s.port p) .zero .unknown) id s t ∧ t = { s with ports := t.ports }) ∧
      (∀ op : Command,
        (p = .a ∧ op ∈ [.setView, .setStyle, .fetchOverlay]) ∨
        (p = .b ∧ op ∈ [.loadCandidates, .removeCandidates, .setWindow, .clearTable, .setGrid, .setSnap,
          .setRest, .resetChannel, .armFigure, .cancelFigure, .releaseFigure, .clearStall, .readPicks,
          .flushPicks, .setPickThreshold, .setStation, .clearLink]) →
        ∃ t, exec (rowOfCode p op.code) s = .next t ∧
          PortsBecome p (servedPort (s.port p) .zero .role) id s t ∧ t = { s with ports := t.ports }))

/-- In READY, a command of the port's role whose channel, reserved byte or own parameter is out of range
completes at once with PARAM, and has no effect outside the port (R170, R195). -/
def Obligations.BadParametersRefused : Prop :=
  ∀ (p : PortId) (op : Command) (w : ParamBlock) (s : State), Ready p w s → inRole op p = true →
    badParameter op w →
    ∃ t, exec (rowOfCode p op.code) s = .next t ∧
      PortsBecome p (servedPort (s.port p) .zero .param) id s t ∧ t = { s with ports := t.ports }

/-! ## Command Block Ports: the window, STATUS, DATA and CONTROL -/

/-- A write to PARAM0 to PARAM3 or COUNT is stored in READY and read back, the other positions keeping
their values; in any other port state it is ignored with COLLIDE, and every position reads 0. A read of
STATUS returns the seven indications as they stood, and then clears DONE and nothing else. Each of the
eight addresses gives its position: a write takes the low eight data lines but for DATA, and a read of
PARAM0 to PARAM3, COUNT or FAULT leaves its byte on them, 0 on the upper eight, and changes nothing else
(R166, R168, R169, R194). The four CONTROL rows act alike on one byte (log 13), and the reads without a
row are operations of the model (log 23). -/
def Obligations.WindowAccessesStoreAndShow : Prop :=
  (∀ (p : PortId) (pos : ParamPos) (v : Byte) (s : State), NothingDue s →
      ∃ t, exec (.parameterWrite p pos v) s = .next t ∧ t = { s with ports := t.ports } ∧
        ((s.port p).state = .ready →
          PortsBecome p { s.port p with window := (t.port p).window } id s t ∧
          (t.port p).readPosition pos = v ∧
          ∀ other, other ≠ pos → (t.port p).readPosition other = (s.port p).readPosition other) ∧
        ((s.port p).state ≠ .ready →
          PortsBecome p { s.port p with collide := true } id s t ∧
          ∀ other, (t.port p).readPosition other = 0)) ∧
  (∀ (p : PortId) (s : State), NothingDue s →
      ∃ t, exec (.statusRead p) s = .next t ∧ t = { s with ports := t.ports } ∧
        PortsBecome p { s.port p with done := false, readData := (t.port p).readData } id s t ∧
        ∀ i, (t.port p).readData.getLsbD i =
          [decide ((s.port p).state = .ready),
           decide ((s.port p).state ∈ [.busy, .dataIn, .dataOut, .resetHeld]),
           (s.port p).dreq, (s.port p).done, decide ((s.port p).fault ≠ .none), (s.port p).collide,
           decide ((s.port p).attn = .on)].getD i false) ∧
  (∀ (p : PortId) (lines : Word) (s : State),
      let v : Byte := lines.setWidth 8
      writeAccess p 0 lines s = exec (.parameterWrite p .param0 v) s ∧
      writeAccess p 1 lines s = exec (.parameterWrite p .param1 v) s ∧
      writeAccess p 2 lines s = exec (.parameterWrite p .param2 v) s ∧
      writeAccess p 3 lines s = exec (.parameterWrite p .param3 v) s ∧
      writeAccess p 4 lines s = exec (.parameterWrite p .count v) s ∧
      writeAccess p 5 lines s = exec (rowOfCode p v) s ∧
      (∀ i ∈ [Instr.portSoftReset p v, .softResetRelease p v, .commandAttentionEnable p v,
        .attentionMode p v], writeAccess p 6 lines s = exec i s) ∧
      writeAccess p 7 lines s = exec (.dataWrite p lines) s ∧
      readAccess p 5 s = exec (.statusRead p) s ∧ readAccess p 7 s = exec (.dataRead p) s) ∧
  (∀ (p : PortId) (address : BitVec 3) (s : State), NothingDue s → address ≠ 5 → address ≠ 7 →
      let w := (s.port p).window
      ∃ t, readAccess p address s = .next t ∧ t = { s with ports := t.ports } ∧
        PortsBecome p { s.port p with readData := (t.port p).readData } id s t ∧
        (address = 6 →
          (t.port p).readData = BitVec.ofNat 16 (faultsByCode.idxOf (s.port p).fault)) ∧
        (address ≠ 6 → (s.port p).state ≠ .ready → (t.port p).readData = 0) ∧
        (address ≠ 6 → (s.port p).state = .ready →
          (t.port p).readData = ([w.p0, w.p1, w.p2, w.p3, w.count].getD address.toNat 0).setWidth 16))

/-- A word moved in the middle of a record: a data-in word joins the record in hand, a data-out word is
returned and the following one presented; DREQ stays set and burst attention ends. An access with DREQ
clear or against the direction of the phase moves no word: it sets COLLIDE, and a read returns 0; a read
in start-up too (log 10). Nothing outside the port changes (R169, R173, R175). -/
def Obligations.DataAccessMovesWordOrCollides : Prop :=
  (∀ (p : PortId) (s : State) (c : Progress), NothingDue s → (s.port p).cmd = some c →
      (s.port p).dreq = true →
      (∀ w : Word, (s.port p).state = .dataIn → c.words.length + 1 < recordWords c.op →
        ∃ t, exec (.dataWrite p w) s = .next t ∧ t = { s with ports := t.ports } ∧
          PortsBecome p { s.port p with
            burstAttn := false, cmd := some { c with words := c.words ++ [w] } } id s t) ∧
      (∀ (w w' : Word) (rest : List Word), (s.port p).state = .dataOut → c.words = w :: w' :: rest →
        ∃ t, exec (.dataRead p) s = .next t ∧ t = { s with ports := t.ports } ∧
          PortsBecome p { s.port p with
            burstAttn := false, readData := w, cmd := some { c with words := w' :: rest } } id s t)) ∧
  (∀ (p : PortId) (s : State), NothingDue s →
      (∀ w : Word, ((s.port p).state ≠ .dataIn ∨ (s.port p).dreq = false) →
        ∃ t, exec (.dataWrite p w) s = .next t ∧ t = { s with ports := t.ports } ∧
          PortsBecome p { s.port p with collide := true } id s t) ∧
      (((s.port p).state ≠ .dataOut ∨ (s.port p).dreq = false) →
        ∃ t, exec (.dataRead p) s = .next t ∧ t = { s with ports := t.ports } ∧
          PortsBecome p { s.port p with collide := true, readData := 0 } id s t))

/-- A port soft reset outside start-up: the command is abandoned without completion, the window, the
fault code, the indications, the burst size, command attention, the latched set and the mask are cleared,
PICK_AVAILABLE stays latched while its condition is true, and the port is held. The items of a table
command stay, owned by no command in progress (log 12), a FETCH OVERLAY releases its pin, and nothing else
outside the port changes (R38, R148, R178, R179, R185, R191, R192). -/
def Obligations.SoftResetAbandonsCommand : Prop :=
  ∀ (p : PortId) (v : Byte) (s : State), NothingDue s → v.getLsbD 0 = true →
    (s.port p).state ≠ .resetHeld → ¬ ((s.port p).state = .busy ∧ (s.port p).cmd = none) →
    ∃ t, exec (.portSoftReset p v) s = .next t ∧
      t = { s with ports := t.ports, stc := t.stc, overlay := t.overlay } ∧
      PortsBecome p { s.port p with
        window := .zero, state := .resetHeld, fault := .none, done := false, collide := false,
        dreq := false, cmd := none, burst := 1, burstAttn := false, attnEnable := false,
        mode := writtenMode v,
        latched := if s.pickRaw = true then Event.pickAvailable.toSet else 0, mask := 0 } id s t ∧
      t.stc = { s.stc with queue := t.stc.queue, batch := t.stc.batch } ∧
      t.stc.queue.map EditItem.kind = s.stc.queue.map EditItem.kind ∧
      t.stc.batch.map EditItem.kind = s.stc.batch.map EditItem.kind ∧
      (∀ c, (s.port p).cmd = some c → isTableCommand c.op = true →
        ∀ i ∈ t.stc.queue ++ t.stc.batch, i.owner = .abandoned) ∧
      ((∀ c, (s.port p).cmd = some c → isTableCommand c.op = false) → t.stc = s.stc) ∧
      (∀ c, (s.port p).cmd = some c → c.op = .fetchOverlay → t.overlay = (releasePin s).overlay) ∧
      ((∀ c, (s.port p).cmd = some c → c.op ≠ .fetchOverlay) → t.overlay = s.overlay)

/-- The other writes of CONTROL, whichever of the four rows names them, also with a byte that does not fit
the row, which is the model's choice (log 13): ignored with COLLIDE in start-up; in
RESET_HELD the mode is taken, and soft reset 0 releases the port to READY; outside it, soft reset 0 takes
enable and mode and leaves the command in progress (R178, R181). -/
def Obligations.ControlWriteTakesFields : Prop :=
  ∀ (p : PortId) (v : Byte) (i : Instr) (s : State), NothingDue s →
    i ∈ [.portSoftReset p v, .softResetRelease p v, .commandAttentionEnable p v,
      .attentionMode p v] →
    ∀ q : PortState,
    (((s.port p).state = .busy ∧ (s.port p).cmd = none ∧ q = { s.port p with collide := true }) ∨
     ((s.port p).state = .resetHeld ∧ v.getLsbD 0 = true ∧
        q = { s.port p with mode := writtenMode v }) ∨
     ((s.port p).state = .resetHeld ∧ v.getLsbD 0 = false ∧
        q = { s.port p with state := .ready, mode := writtenMode v }) ∨
     ((s.port p).state ≠ .resetHeld ∧ ¬ ((s.port p).state = .busy ∧ (s.port p).cmd = none) ∧
        v.getLsbD 0 = false ∧
        q = { s.port p with attnEnable := v.getLsbD 1, mode := writtenMode v })) →
    ∃ t, exec i s = .next t ∧ PortsBecome p q id s t ∧ t = { s with ports := t.ports }

/-- The attention output over one event that takes a port from `old` to `new`: in LEVEL mode, and at a
change of mode, ON exactly while a ground holds; in EDGE mode as the table of R190 has it. The end of the
2 µs turns a PULSING output ON when a ground holds and OFF otherwise. Both outputs are driven so at an
event's end, and an event raised is latched in both sets, and does nothing else (R183, R189 to R191). -/
def Obligations.AttentionFollowsGrounds : Prop :=
  (∀ old new : PortState,
      ((∀ g, ground new g = false) → nextAttn old new = .off) ∧
      ((∃ g, ground new g = true) →
        ((new.mode = .level ∨ old.mode = .level) → nextAttn old new = .on) ∧
        (new.mode = .edge → old.mode = .edge →
          (new.attn = .off → nextAttn old new = .on) ∧
          (new.attn = .pulsing → nextAttn old new = .pulsing) ∧
          (new.attn = .on → (∃ g, ground old g = true ∧ ground new g = false) →
            nextAttn old new = .pulsing) ∧
          (new.attn = .on → (∀ g, ground old g = true → ground new g = true) →
            nextAttn old new = .on)))) ∧
  (∀ (p : PortId) (s : State), NothingDue s → (s.port p).attn = .pulsing →
      ∃ t, exec (.pulseEnd p) s = .next t ∧ t = { s with ports := t.ports } ∧
        t.port p = { s.port p with attn := (t.port p).attn } ∧
        ((t.port p).attn = .on ↔ ∃ g, ground (s.port p) g = true) ∧
        ((t.port p).attn = .off ↔ ∀ g, ground (s.port p) g = false) ∧
        t.port (otherPort p) = { s.port (otherPort p) with
          attn := nextAttn (s.port (otherPort p)) (s.port (otherPort p)) }) ∧
  (∀ old new : State, ∃ t, driveAttention old new = t ∧ t = { new with ports := t.ports } ∧
      ∀ p, t.port p = { new.port p with attn := nextAttn (old.port p) (new.port p) }) ∧
  (∀ (e : Event) (s : State), ∃ t, raise e s = t ∧ t = { s with ports := t.ports } ∧
      raiseIf true e s = t ∧ raiseIf false e s = s ∧
      ∀ p, t.port p = { s.port p with latched := (t.port p).latched } ∧
        ∀ i, (t.port p).latched.getLsbD i = ((s.port p).latched.getLsbD i || i == e.pos))

/-! ## Command Block Ports: data phases -/

/-- The acceptance of a command with a data-in phase opens the phase for its number of records, COUNT 0
meaning 256, with DREQ set and a burst begun; a table command facing 16 queued items finds DREQ withheld.
An accepted CLEAR TABLE leaves its port BUSY; its CLEAR item joins the edit queue, or waits outside a full
one (R5, R11, R34 to R37, R41, R170, R173 to R175). A batch that is due then starts before the next event,
not in this one (log 3). -/
def Obligations.RecordAndClearCommandsOpen : Prop :=
  (∀ (s : State) (n : Byte) (c : Chan),
      let total := if n = 0 then 256 else n.toNat
      (Ready .a ⟨0, 0, 0, 0, n⟩ s → ∃ t, exec (.loadCandidates .a) s = .next t ∧
        t = { s with ports := t.ports } ∧
        PortsBecome .a (tablePhase (s.port .a)
          (.start .loadCandidates ⟨0, 0, 0, 0, n⟩ total []) s.stc.queue.length) id s t) ∧
      (Ready .a ⟨0, 0, 0, 0, n⟩ s → ∃ t, exec (.removeCandidates .a) s = .next t ∧
        t = { s with ports := t.ports } ∧
        PortsBecome .a (tablePhase (s.port .a)
          (.start .removeCandidates ⟨0, 0, 0, 0, n⟩ total []) s.stc.queue.length) id s t) ∧
      (Ready .a ⟨chanByte c, 0, 0, 0, n⟩ s → ∃ t, exec (.setWindow .a) s = .next t ∧
        t = { s with ports := t.ports } ∧
        PortsBecome .a (tablePhase (s.port .a)
          (.start .setWindow ⟨chanByte c, 0, 0, 0, n⟩ 1 []) s.stc.queue.length) id s t) ∧
      (Ready .a ⟨0, 0, 0, 0, n⟩ s → ∃ t, exec (.setGrid .a) s = .next t ∧
        t = { s with ports := t.ports } ∧
        PortsBecome .a (openedPort (s.port .a) .dataIn
          (.start .setGrid ⟨0, 0, 0, 0, n⟩ 1 [])) id s t) ∧
      (Ready .a ⟨chanByte c, 0, 0, 0, n⟩ s → ∃ t, exec (.setSnap .a) s = .next t ∧
        t = { s with ports := t.ports } ∧
        PortsBecome .a (openedPort (s.port .a) .dataIn
          (.start .setSnap ⟨chanByte c, 0, 0, 0, n⟩ 1 [])) id s t) ∧
      (Ready .b ⟨0, 0, 0, 0, n⟩ s → ∃ t, exec (.setView .b) s = .next t ∧
        t = { s with ports := t.ports } ∧
        PortsBecome .b (openedPort (s.port .b) .dataIn
          (.start .setView ⟨0, 0, 0, 0, n⟩ 1 [])) id s t)) ∧
  (∀ (s : State) (n : Byte), Ready .a ⟨0, 0, 0, 0, n⟩ s →
      ∃ t, exec (.clearTable .a) s = .next t ∧ t = { s with ports := t.ports, stc := t.stc } ∧
        t.stc = (if s.stc.queue.length < 16 then withItem .clear s.stc else s.stc) ∧
        PortsBecome .a { s.port .a with
          state := .busy, done := false, fault := .none, collide := false,
          cmd := some { Progress.start .clearTable ⟨0, 0, 0, 0, n⟩ 0 [] with
            clearWaiting := decide (16 ≤ s.stc.queue.length) } } id s t)

/-- The data-phase timeout. A command that is neither a table command nor FETCH OVERLAY completes with
TIMEOUT and the outputs of its chapter. A table command completes so when none of its items is left to be
applied, and otherwise waits BUSY with that fault to report. The outputs stand in the positions of R195.
Nothing outside the port changes (R12, R32, R38, R41, R86, R123, R177). -/
def Obligations.TimeoutEndsDataPhase : Prop :=
  ∀ (s : State) (c : Progress), NothingDue s →
    (∀ p : PortId, (s.port p).cmd = some c → (s.port p).dreq = true →
      isTableCommand c.op = false → c.op ≠ .fetchOverlay →
      ∃ t, exec (.dataPhaseTimeout p) s = .next t ∧ t = { s with ports := t.ports } ∧
        PortsBecome p (completedPort (s.port p)
          (match c.op with
           | .setView => ⟨s.view.gen, 0, 0, 0, 1⟩
           | .readPicks => pickOutputs c.moved s.picks.records.length (c.total - c.moved)
           | _ => ⟨0, 0, 0, 0, 1⟩) .timeout) id s t) ∧
    ((s.port .a).cmd = some c → (s.port .a).dreq = true → isTableCommand c.op = true →
      ∃ t, exec (.dataPhaseTimeout .a) s = .next t ∧ t = { s with ports := t.ports } ∧
        (awaitsItems c s → PortsBecome .a (waitingPort (s.port .a) c .timeout) id s t) ∧
        (¬ awaitsItems c s → PortsBecome .a (completedPort (s.port .a)
          (tableOutputs { c with ended := .timeout, words := [] }) .timeout) id s t)) ∧
    ShowsTable { c with ended := .timeout, words := [] }
      (tableOutputs { c with ended := .timeout, words := [] }) ∧
    ShowsPicks c.moved s.picks.records.length (c.total - c.moved)
      (pickOutputs c.moved s.picks.records.length (c.total - c.moved))

/-! ## Commands that replace a setting -/

/-- An accepted setting command replaces its setting, and nothing else, in the event of its acceptance,
in which it completes without fault (R81, R117, R130, R158, R176, R188). A RUNNING rest timer is restarted:
it holds its interval, in seconds, not the time left (log 5). -/
def Obligations.SettingCommandsReplace : Prop :=
  ∀ (s : State) (n : Byte),
    (∀ v : Byte, Ready .a ⟨v, 0, 0, 0, n⟩ s →
      ∃ t, exec (.setRest .a) s = .next t ∧
        t = { s with ports := t.ports, rest := v, chans := t.chans } ∧
        PortsBecome .a (servedPort (s.port .a) .zero .none) id s t ∧
        ∀ c, t.chan c = { s.chan c with timer :=
          (if (s.chan c).timer = .stopped then RestTimer.stopped
           else RestTimer.running (if v = 0 then 600 else 4 * v.toNat)) }) ∧
    (∀ v : Byte, Ready .a ⟨v, 0, 0, 0, n⟩ s → 1 ≤ v.toNat → v.toNat ≤ 31 →
      ∃ t, exec (.setPickThreshold .a) s = .next t ∧
        t = { s with ports := t.ports, picks := { s.picks with threshold := t.picks.threshold } } ∧
        PortsBecome .a
          (servedPort (s.port .a) ⟨lowByte s.picks.records.length, 0, 0, 0, 0⟩ .none) id s t ∧
        t.picks.threshold.toNat = v.toNat) ∧
    (∀ (c : Chan) (a m : Byte), Ready .a ⟨chanByte c, a, m, 0, n⟩ s → 1 ≤ a.toNat → a.toNat ≤ 127 →
      m.toNat ≤ 127 →
      ∃ t, exec (.setStation .a) s = .next t ∧
        t = { s with ports := t.ports, link := { s.link with stations := t.link.stations } } ∧
        PortsBecome .a (servedPort (s.port .a) .zero .none) id s t ∧
        (t.link.stations.get c).address.toNat = a.toNat ∧
        (t.link.stations.get c).mask.toNat = m.toNat ∧
        t.link.stations.get (otherChan c) = s.link.stations.get (otherChan c)) ∧
    (∀ f k b : Byte, Ready .b ⟨f, k, b, 0, n⟩ s → f.toNat ≤ 1 → k.toNat ≤ 1 → b.toNat ≤ 1 →
      ∃ t, exec (.setStyle .b) s = .next t ∧
        t = { s with ports := t.ports, overlay := { s.overlay with style :=
          { form := if f = 0 then .full else .arms, ticks := decide (k = 1),
            band := if b = 0 then .solid else .dashed } } } ∧
        PortsBecome .b (servedPort (s.port .b) .zero .none) id s t) ∧
    (∀ (p : PortId) (v : Byte), Ready p ⟨v, 0, 0, 0, n⟩ s → 1 ≤ v.toNat → v.toNat ≤ 32 →
      ∃ t, exec (.setBurst p) s = .next t ∧ t = { s with ports := t.ports } ∧
        PortsBecome p { servedPort (s.port p) .zero .none with burst := (t.port p).burst } id s t ∧
        (t.port p).burst.toNat = v.toNat) ∧
    (∀ (p : PortId) (x y z : Byte), Ready p ⟨x, y, z, 0, n⟩ s → x.getLsbD 7 = false →
      y.getLsbD 7 = false →
      ∃ t, exec (.setEventMask p) s = .next t ∧ t = { s with ports := t.ports } ∧
        PortsBecome p { servedPort (s.port p) .zero .none with mask := z ++ y ++ x } id s t)

/-! ## Commands that read one record -/

/-- READ CURSOR and IDENTIFY, on either port: the record is copied at acceptance and presented word by
word, in the layout of R198; the read of its last word completes the command. Neither changes anything
outside the port (R85, R182, R198). The revision word is 0001h, of the parts the guide is for (log 21). -/
def Obligations.OneRecordReads : Prop :=
  ∀ (p : PortId) (s : State) (n : Byte),
    (∀ c : Chan, Ready p ⟨chanByte c, 0, 0, 0, n⟩ s →
      ∃ t, exec (.readCursor p) s = .next t ∧ t = { s with ports := t.ports } ∧
        PortsBecome p (openedPort (s.port p) .dataOut
          (.start .readCursor ⟨chanByte c, 0, 0, 0, n⟩ 1 (cursorLayout (s.chan c)))) id s t) ∧
    (Ready p ⟨0, 0, 0, 0, n⟩ s →
      ∃ t, exec (.identify p) s = .next t ∧ t = { s with ports := t.ports } ∧
        PortsBecome p (openedPort (s.port p) .dataOut (.start .identify ⟨0, 0, 0, 0, n⟩ 1
          [0x0420, 0x0001, 1024, 16, 32, 4, 16, 48, 2, if p = .a then 1 else 2, 0, 0, 0, 0, 0, 0]))
          id s t) ∧
    (∀ (c : Progress) (w : Word), NothingDue s → (s.port p).state = .dataOut →
      (s.port p).dreq = true → (s.port p).cmd = some c → c.op ∈ [.readCursor, .identify] →
      c.words = [w] →
      ∃ t, exec (.dataRead p) s = .next t ∧ t = { s with ports := t.ports } ∧
        PortsBecome p { completedPort (s.port p) .zero .none with readData := w } id s t)

/-! ## The Snap Candidate Table: records of the table commands -/

/-- A record of LOAD CANDIDATES that passes validation joins the edit queue as an INSERT item with a
reservation when fewer than 1024 slots are USED or reserved; otherwise the phase ends with FULL (R20,
R34). A batch that is due then starts before the next event, not in this one (log 3). -/
def Obligations.EntryRecordJoinsOrFull : Prop :=
  ∀ (s : State) (c : Progress) (w : Word) (e : Entry), NothingDue s → (s.port .a).state = .dataIn →
    (s.port .a).dreq = true → (s.port .a).cmd = some c → c.op = .loadCandidates →
    parseEntry (c.words ++ [w]) = some e →
    (s.stc.table.length + s.stc.reserved < 1024 →
      ∃ t, exec (.dataWrite .a w) s = .next t ∧
        t = { s with ports := t.ports,
                     stc := withItem (.insert e) { s.stc with reserved := s.stc.reserved + 1 } } ∧
        PortsBecome .a (standingPort { s.port .a with dreq := false, burstAttn := false } c
          (s.stc.queue.length + 1)) id s t) ∧
    (1024 ≤ s.stc.table.length + s.stc.reserved →
      ∃ t, exec (.dataWrite .a w) s = .next t ∧ t = { s with ports := t.ports } ∧
        (awaitsItems c s → PortsBecome .a (waitingPort (s.port .a) c .full) id s t) ∧
        (¬ awaitsItems c s → PortsBecome .a (completedPort (s.port .a)
          (tableOutputs { c with ended := .full, words := [] }) .full) id s t))

/-- A record of REMOVE CANDIDATES or SET WINDOW that passes validation joins the edit queue as a REMOVE
item, or as an EVICT item for the channel named at acceptance (R35, R36). A batch that is due then starts
before the next event, not in this one (log 3). -/
def Obligations.RemovalAndWindowRecordsJoin : Prop :=
  ∀ (s : State) (c : Progress) (w : Word) (k : EditKind), NothingDue s →
    (s.port .a).state = .dataIn → (s.port .a).dreq = true → (s.port .a).cmd = some c →
    ((c.op = .removeCandidates ∧ ∃ h kind, parseRemoval (c.words ++ [w]) = some (h, kind) ∧
        k = .remove h kind) ∨
     (c.op = .setWindow ∧ ∃ ch win, c.input.p0 = chanByte ch ∧
        parseWindow (c.words ++ [w]) = some win ∧ k = .evict ch win)) →
    ∃ t, exec (.dataWrite .a w) s = .next t ∧
      t = { s with ports := t.ports, stc := withItem k s.stc } ∧
      PortsBecome .a (standingPort { s.port .a with dreq := false, burstAttn := false } c
        (s.stc.queue.length + 1)) id s t

/-- A record of a table command that fails validation makes no item: the phase ends with RECORD, and the
command completes, or waits BUSY for the items of its earlier records (R32, R33, R35, R36). The remaining
count of a SET WINDOW so refused is 0 (log 16). -/
def Obligations.BadTableRecordEndsPhase : Prop :=
  ∀ (s : State) (c : Progress) (w : Word), NothingDue s → (s.port .a).state = .dataIn →
    (s.port .a).dreq = true → (s.port .a).cmd = some c →
    ((c.op = .loadCandidates ∧ c.words.length = 6 ∧ parseEntry (c.words ++ [w]) = none) ∨
     (c.op = .removeCandidates ∧ c.words.length = 1 ∧ parseRemoval (c.words ++ [w]) = none) ∨
     (c.op = .setWindow ∧ c.words.length = 8 ∧ parseWindow (c.words ++ [w]) = none)) →
    ∃ t, exec (.dataWrite .a w) s = .next t ∧ t = { s with ports := t.ports } ∧
      (awaitsItems c s → PortsBecome .a (waitingPort (s.port .a) c .record) id s t) ∧
      (¬ awaitsItems c s → PortsBecome .a (completedPort (s.port .a)
        (tableOutputs { c with ended := .record, words := [] }) .record) id s t)

/-! ## The Snap Candidate Table: batches -/

/-- A due batch starts: every queued item becomes the batch, in order. A DREQ that was withheld is set,
and a CLEAR item that waited outside the queue joins it (R22, R37, R174). The start is an event of its
own (log 3). -/
def Obligations.BatchStartTakesQueue : Prop :=
  ∀ s : State, s.stc.access = .draining → s.stc.queue ≠ [] → s.stc.inFlight = 0 →
    (∀ c b, (s.chan c).search ≠ .waiting b true) →
    ∃ t, exec .batchStart s = .next t ∧ t = { s with ports := t.ports, stc := t.stc } ∧
      t.stc = { s.stc with queue := t.stc.queue, batch := s.stc.queue, access := .applying } ∧
      ((∀ c, (s.port .a).cmd = some c → c.clearWaiting = false) → t.stc.queue = [] ∧
        ((s.port .a).state ≠ .dataIn ∨ (s.port .a).dreq = true ∨ (s.port .a).cmd = none →
          PortsKept id s t) ∧
        (∀ c, (s.port .a).state = .dataIn → (s.port .a).dreq = false → (s.port .a).cmd = some c →
          PortsBecome .a { s.port .a with dreq := true, burstAttn := c.burstPos == 0 } id s t)) ∧
      (∀ c, (s.port .a).cmd = some c → c.clearWaiting = true → (s.port .a).state = .busy →
        t.stc.queue = [{ kind := .clear, owner := .inProgress }] ∧
        PortsBecome .a { s.port .a with cmd := some { c with clearWaiting := false } } id s t)

/-- The completion of a batch: table, windows and reservations become what its items make of them, the
access state follows the edit queue and the waiting searches are released. A hit the table no longer
offers is dropped with HIT_LOST and HIT_CHANGED_c; a hit dropped, an EVICT of the channel or a CLEAR sets
the re-search flag outside DETACHED (R23, R25, R30, R31, R45). A released search is granted the table and
enters SEARCHING, and a batch that is due starts, before the next event, not in this one (log 3). -/
def Obligations.BatchCompletionAppliesItems : Prop :=
  ∀ s : State, NothingDue s → s.stc.access = .applying →
    let r := applyItems s.stc.batch
      { table := s.stc.table, windows := s.stc.windows, reserved := s.stc.reserved }
    let lost := fun (c : Chan) => ∃ h, (s.chan c).cursor.hit = some h ∧ ∀ e ∈ r.1.table,
      ¬ (e.handle = h.handle ∧ e.kind = h.kind ∧ e.point = (s.chan c).cursor.snapped ∧
        e.seats.get c = true)
    let asked := fun (c : Chan) => ∃ i ∈ s.stc.batch, i.kind = .clear ∨ ∃ w, i.kind = .evict c w
    ∃ t, exec .batchCompletion s = .next t ∧
      t = { s with ports := t.ports, chans := t.chans, stc := t.stc } ∧
      t.stc = { s.stc with
        table := r.1.table, windows := r.1.windows, reserved := r.1.reserved, batch := [],
        access := if s.stc.queue = [] then .opened else .draining } ∧
      ∀ c, t.chan c = { s.chan c with cursor := (t.chan c).cursor, flag := (t.chan c).flag,
                                      search := (t.chan c).search } ∧
        (lost c → (t.chan c).cursor = { (s.chan c).cursor with hit := none, hitLost := true }) ∧
        (¬ lost c → (t.chan c).cursor = (s.chan c).cursor) ∧
        ((t.chan c).flag = true ↔
          (s.chan c).flag = true ∨ ((lost c ∨ asked c) ∧ (s.chan c).state ≠ .detached)) ∧
        (∀ b g, (s.chan c).search = .waiting b g → (t.chan c).search = .waiting b true) ∧
        ((∀ b g, (s.chan c).search ≠ .waiting b g) → (t.chan c).search = (s.chan c).search) ∧
        ∀ p, (Event.hitChanged c).isIn (t.port p).latched = true ↔
          ((Event.hitChanged c).isIn (s.port p).latched = true ∨ lost c)

/-- The ports at a batch completion: the hits lost are latched; the command in progress is credited with
its items' counts, and it completes, with its outputs and the fault that ended its data phase, when it
waits BUSY and none of its items is left; the outputs stand in the positions of R195 (R25, R30, R32, R172,
R195). An item knows only whether its command is still in progress (log 12), and the remaining count of a
SET WINDOW is 1 after a timeout and 0 otherwise (log 16). -/
def Obligations.BatchCompletionCompletesCommand : Prop :=
  ∀ s : State, NothingDue s → s.stc.access = .applying →
    let r := applyItems s.stc.batch
      { table := s.stc.table, windows := s.stc.windows, reserved := s.stc.reserved }
    let lost := latching (([.c0, .c1].filter fun c =>
      hitLost r.1.table c (s.chan c).cursor).map Event.hitChanged)
    ∃ t, exec .batchCompletion s = .next t ∧
      ((s.port .a).cmd = none → PortsKept lost s t) ∧
      ∀ c, (s.port .a).cmd = some c →
        let credited := { c with counts := c.counts.add r.2 }
        ShowsTable credited (tableOutputs credited) ∧
        (isTableCommand c.op = true ∧ (s.port .a).state = .busy ∧ c.clearWaiting = false ∧
          (∀ i ∈ s.stc.queue, i.owner = .abandoned) →
          PortsBecome .a (completedPort (s.port .a) (tableOutputs credited) c.ended) lost s t) ∧
        (isTableCommand c.op = false ∨ (s.port .a).state ≠ .busy ∨ c.clearWaiting = true ∨
          (∃ i ∈ s.stc.queue, i.owner = .inProgress) →
          PortsBecome .a { s.port .a with cmd := some credited } lost s t)

/-- The items of a batch, applied one after another, each on what the items before it left: INSERT drops,
merges or adds, REMOVE frees by handle and kind, EVICT replaces a window, strips its seat bit and frees
what is left without one, CLEAR frees all. Each item's counts go to the command in progress unless its
command was abandoned (R25 to R29). The order of the entries is the model's (log 7), and an item knows only
whether its command is still in progress (log 12). -/
def Obligations.ItemsActOnTable : Prop :=
  (∀ (i : EditItem) (rest : List EditItem) (b : BatchWork),
    let later := applyItems rest (applyItem i.kind b).1
    applyItems [] b = (b, .zero) ∧ (applyItems (i :: rest) b).1 = later.1 ∧
    (i.owner = .inProgress → (applyItems (i :: rest) b).2 = (applyItem i.kind b).2.add later.2) ∧
    (i.owner = .abandoned → (applyItems (i :: rest) b).2 = later.2)) ∧
  (∀ (e : Entry) (b : BatchWork),
    let mask := fun c => e.seats.get c && (b.windows.get c).contains e.point
    let same := fun (u : Entry) => u.handle = e.handle ∧ u.kind = e.kind ∧ u.point = e.point
    let r := applyItem (.insert e) b
    r.1.windows = b.windows ∧ r.1.reserved = b.reserved - 1 ∧
    ((∀ c, mask c = false) →
      r.1.table = b.table ∧ r.2 = { TableCounts.zero with outside := 1 }) ∧
    ((∃ c, mask c = true) → (∃ u ∈ b.table, same u) →
      r.2 = { TableCounts.zero with merged := 1 } ∧ r.1.table.length = b.table.length ∧
      ∀ (n : Nat) (u : Entry), b.table[n]? = some u →
        (¬ same u → r.1.table[n]? = some u) ∧
        (same u → r.1.table[n]? = some { u with
          seats := ⟨u.seats.ch0 || mask .c0, u.seats.ch1 || mask .c1⟩,
          cls := e.cls, layer := e.layer })) ∧
    ((∃ c, mask c = true) → (∀ u ∈ b.table, ¬ same u) →
      r.2 = { TableCounts.zero with added := 1 } ∧
      r.1.table = b.table ++ [{ e with seats := ⟨mask .c0, mask .c1⟩ }])) ∧
  (∀ (h : Word) (k : Option SnapKind) (b : BatchWork),
    let r := applyItem (.remove h k) b
    r.1.windows = b.windows ∧ r.1.reserved = b.reserved ∧
    (∀ e, e ∈ r.1.table ↔ e ∈ b.table ∧ ¬ (e.handle = h ∧ (k = none ∨ k = some e.kind))) ∧
    r.2 = { TableCounts.zero with removed := b.table.length - r.1.table.length }) ∧
  (∀ (c : Chan) (w : Window) (b : BatchWork),
    let r := applyItem (.evict c w) b
    let loses := fun (e : Entry) => e.seats.get c && !w.contains e.point
    r.1.windows = b.windows.set c w ∧ r.1.reserved = b.reserved ∧
    (∀ e, e ∈ r.1.table ↔ (∃ d, e.seats.get d = true) ∧ ∃ u ∈ b.table,
      e = if loses u = true then { u with seats := u.seats.set c false } else u) ∧
    r.2 = { TableCounts.zero with
      cleared := (b.table.filter loses).length,
      freed := (b.table.filter fun u => loses u && !u.seats.get (otherChan c)).length }) ∧
  (∀ b : BatchWork, let r := applyItem .clear b
    r.1 = { b with table := [] } ∧ r.2 = { TableCounts.zero with freed := b.table.length })

/-! ## Start-up and device reset -/

/-- Device reset puts every block in its reset state; only the commands that wait are kept, which are the
model's own (log 18). At the end of start-up every slot is FREE, the table is OPEN, the waiting searches
are released, and both ports, in start-up, enter READY with the window they have (R2, R10, R15, R18, R39,
R40, R43, R64, R66, R79, R88, R125, R126, R150, R165, R175, R181, R192). A released search enters
SEARCHING before the next event, not in this one (log 3), and the slots are made FREE at the end
(log 8). -/
def Obligations.DeviceResetAndStartUp : Prop :=
  (∀ s : State, ∃ t, exec .deviceReset s = .next t ∧ t.pending = s.pending ∧
      t.view = { ox := 0, oy := 0, n := 1, shift := 0, gen := 0 } ∧
      t.grid = { present := false, gx := 0, gy := 0, px := 1, py := 1 } ∧
      t.stc.access = .initializing ∧ t.stc.queue = [] ∧ t.stc.batch = [] ∧ t.stc.reserved = 0 ∧
      t.stc.inFlight = 0 ∧ t.stc.windows = ⟨.none, .none⟩ ∧
      (∀ c, (t.chan c).state = .detached ∧ (t.chan c).queue = [] ∧ (t.chan c).raw = ⟨0, 0⟩ ∧
        (t.chan c).buttons = 0 ∧ (t.chan c).timer = .stopped ∧
        (t.chan c).settings = { kinds := 63, layers := 65535, radius := 40, gridSnap := false,
                                ortho := false, deadband := 2 } ∧
        (t.chan c).search = .quiet ∧ (t.chan c).flag = false ∧ (t.chan c).zone = .outside ∧
        (t.chan c).stage = .idle ∧ (t.chan c).template = .none ∧ (t.chan c).target = none ∧
        (t.chan c).action = none ∧ (t.chan c).anchors = [] ∧ (t.chan c).ret = none ∧
        (t.chan c).saved = none ∧
        (t.chan c).cursor =
          { raw := ⟨0, 0⟩, target := ⟨0, 0⟩, snapped := ⟨0, 0⟩, basis := .free, hit := none,
            degraded := false, orthoApplied := false, hitLost := false, gen := 0 }) ∧
      t.rest = 0 ∧ t.picks = { records := [], threshold := 24 } ∧ t.pickRaw = false ∧
      t.overlay = { bufX := .free, bufY := .free, swapPending := false, frameNo := 0,
                    style := { form := .full, ticks := true, band := .dashed } } ∧
      t.link = { state := .idle, assembler := .hunt, holding := [], hold := false,
                 stations := ⟨{ address := 1, mask := 0 }, { address := 2, mask := 0 }⟩ } ∧
      ∀ p, (t.port p).state = .busy ∧ (t.port p).cmd = none ∧ (t.port p).window = .zero ∧
        (t.port p).fault = .none ∧ (t.port p).done = false ∧ (t.port p).collide = false ∧
        (t.port p).dreq = false ∧ (t.port p).burst = 1 ∧ (t.port p).burstAttn = false ∧
        (t.port p).attnEnable = false ∧ (t.port p).mode = .level ∧ (t.port p).latched = 0 ∧
        (t.port p).mask = 0 ∧ (t.port p).attn = .off) ∧
  (∀ s : State, NothingDue s → s.stc.access = .initializing →
      (∀ p, (s.port p).state = .busy ∧ (s.port p).cmd = none) →
      ∃ t, exec .endOfInitialization s = .next t ∧
        t = { s with ports := t.ports, chans := t.chans,
                     stc := { s.stc with table := [], access := .opened } } ∧
        (∀ p, t.port p = { s.port p with
          state := .ready, attn := nextAttn (s.port p) { s.port p with state := .ready } }) ∧
        ∀ c, t.chan c = { s.chan c with search := (t.chan c).search } ∧
          (∀ b g, (s.chan c).search = .waiting b g → (t.chan c).search = .waiting b true) ∧
          ((∀ b g, (s.chan c).search ≠ .waiting b g) → (t.chan c).search = (s.chan c).search))

/-! ## Snap search -/

/-- A granted search enters SEARCHING: it fixes its inputs from the state that stands, clears the
channel's re-search flag and is in flight. A re-search is begun when the unit is QUIET, the report queue
is empty and the flag is set: on the stored raw tablet point, granted at once in OPEN (R21, R44, R46). The
start is an event of its own, so a search begun in OPEN is WAITING, granted, until then (log 3). -/
def Obligations.SearchesBeginAndStart : Prop :=
  (∀ (c : Chan) (b : SearchBasis) (s : State), (s.chan c).search = .waiting b true →
      let ch := s.chan c
      let inputs : Inputs :=
        { target := mapPoint s.view b.point
          rc := convertRadius s.view ch.settings.radius.toNat
          rr := convertRadius s.view (ch.settings.radius.toNat + ch.settings.radius.toNat / 2)
          gen := s.view.gen
          kinds := ch.settings.kinds
          layers := ch.settings.layers
          gridSnap := ch.settings.gridSnap
          ortho := ch.settings.ortho
          grid := s.grid
          orthoRef := ch.anchors.getLast?
          prev := ch.cursor.hit.map fun h => (h, ch.cursor.snapped) }
      ∃ t, exec (.searchStart c) s = .next t ∧
        t = { s with chans := t.chans, stc := { s.stc with inFlight := s.stc.inFlight + 1 } } ∧
        t.chan (otherChan c) = s.chan (otherChan c) ∧
        t.chan c = { s.chan c with flag := false, search := .searching b .none inputs }) ∧
  (∀ (c : Chan) (s : State), NothingDue s → (s.chan c).search = .quiet → (s.chan c).queue = [] →
      (s.chan c).flag = true →
      ∃ t, exec (.reSearch c) s = .next t ∧ t = { s with ports := t.ports, chans := t.chans } ∧
        PortsKept id s t ∧ t.chan (otherChan c) = s.chan (otherChan c) ∧
        t.chan c = { s.chan c with
          search := .waiting (.research (s.chan c).raw) (decide (s.stc.access = .opened)) })

/-- The completion of a stale search writes nothing and raises nothing: marked RESET it leaves the unit
QUIET, marked VIEW it is begun again on the same basis, granted at once in OPEN (R56 to R58). A rerun so
granted enters SEARCHING, and a batch that is due starts, before the next event, not in this one (log 3). -/
def Obligations.StaleCompletionDiscards : Prop :=
  ∀ (c : Chan) (b : SearchBasis) (m : Mark) (i : Inputs) (s : State), NothingDue s →
    (s.chan c).search = .searching b m i → m ≠ .none →
    ∃ t, exec (.searchCompletion c) s = .next t ∧
      t = { s with ports := t.ports, chans := t.chans,
                   stc := { s.stc with inFlight := s.stc.inFlight - 1 } } ∧
      PortsKept id s t ∧ t.chan (otherChan c) = s.chan (otherChan c) ∧
      t.chan c = { s.chan c with search :=
        (if m = .reset then Search.quiet
         else Search.waiting b (decide (s.stc.access = .opened))) }

/-- The completion of a search that is not stale: the result is written to the cursor record whole, the
zone is recorded, HIT_CHANGED_c and the window events are raised on the changes the guide names, and the
presses of the basis are then handed on, each handled on the state the one before it left (R56, R59 to
R62, R94). The result is computed in this event (log 25), and a batch that is due then starts before the
next event, not in this one (log 3). -/
def Obligations.CompletionWritesResult : Prop :=
  (∀ (c : Chan) (p : Press) (rest : List Press) (s : State),
    handlePresses c [] s = s ∧
    handlePresses c (p :: rest) s = handlePresses c rest (handlePress c p s)) ∧
  ∀ (c : Chan) (b : SearchBasis) (i : Inputs) (s : State), NothingDue s →
    (s.chan c).search = .searching b .none i →
    let r := resolve c i s.stc
    ∃ u, exec (.searchCompletion c) s = .next (driveAttention s (handlePresses c b.presses u)) ∧
      u = { s with ports := u.ports, chans := u.chans,
                   stc := { s.stc with inFlight := s.stc.inFlight - 1 } } ∧
      u.chan (otherChan c) = s.chan (otherChan c) ∧
      u.chan c = { s.chan c with
        search := .quiet, zone := r.zone
        cursor := { raw := b.point, target := i.target, snapped := r.snapped, basis := r.basis,
                    hit := r.hit, degraded := decide (r.zone = .outside),
                    orthoApplied := r.orthoApplied, hitLost := false, gen := i.gen } } ∧
      ∀ p, u.port p = { s.port p with latched := (u.port p).latched } ∧
        ∀ e : Event, e.isIn (u.port p).latched = true ↔
          (e.isIn (s.port p).latched = true ∨
           (e = .hitChanged c ∧ (s.chan c).cursor.hit.map (fun h => (h.handle, h.kind)) ≠
              r.hit.map fun h => (h.handle, h.kind)) ∨
           (e = .windowNear c ∧ (s.chan c).zone = .interior ∧ r.zone = .margin) ∨
           (e = .windowExit c ∧ (s.chan c).zone ≠ .outside ∧ r.zone = .outside))

/-- The choice of the entry (R48, R51, R52), by the larger of the distances on the two axes: the previous
hit is kept within Rr unless a candidate of a strictly better class exists; otherwise the candidate that
ranks before all others is taken. -/
def Obligations.CandidateChoiceFollowsRanking : Prop :=
  (∀ a b : Point, distance a b =
    max (a.x.toInt - b.x.toInt).natAbs (a.y.toInt - b.y.toInt).natAbs) ∧
  ∀ (c : Chan) (i : Inputs) (table : List Entry),
    table.Pairwise (fun a b => sameIdentity a b = false) →
    let eligibleEntry := fun (e : Entry) => e ∈ table ∧ e.seats.get c = true ∧
      i.kinds.getLsbD (e.kind.code - 1) = true ∧ i.layers.getLsbD e.layer.toNat = true
    let candidate := fun (e : Entry) => eligibleEntry e ∧ distance e.point i.target ≤ i.rc
    let kept := fun (e : Entry) => eligibleEntry e ∧
      (∃ h pt, i.prev = some (h, pt) ∧ e.handle = h.handle ∧ e.kind = h.kind ∧ e.point = pt) ∧
      distance e.point i.target ≤ i.rr ∧ ∀ m, candidate m → ¬ m.cls.toNat < e.cls.toNat
    (∀ e, kept e → chooseEntry c i table = some e) ∧
    ((∀ e, ¬ kept e) →
      ((∀ e, ¬ candidate e) → chooseEntry c i table = none) ∧
      ((∃ e, candidate e) → ∃ e, chooseEntry c i table = some e ∧ candidate e ∧
        ∀ m, candidate m → m ≠ e → ranksBefore i.target e m))

/-- The result of a search (R18, R49, R50, R53 to R55): OUTSIDE its window it takes no candidate; a hit is
taken at its own point, free of constraint and grid; without a hit the target is constrained through the
ortho reference and then rounded to the grid. -/
def Obligations.ResultFollowsHitConstraintGrid : Prop :=
  (∀ (x0 y0 x1 y1 : Coord) (p : Point),
    let w := Window.rect x0 y0 x1 y1
    Window.contains .none p = false ∧
    (w.contains p = true ↔ x0.toInt ≤ p.x.toInt ∧ p.x.toInt ≤ x1.toInt ∧
      y0.toInt ≤ p.y.toInt ∧ p.y.toInt ≤ y1.toInt) ∧
    w.depth p = min (min (p.x.toInt - x0.toInt) (x1.toInt - p.x.toInt))
      (min (p.y.toInt - y0.toInt) (y1.toInt - p.y.toInt))) ∧
  ∀ (c : Chan) (i : Inputs) (stc : TableController),
    let r := resolve c i stc
    let w := stc.windows.get c
    (r.zone = .outside ↔ w.contains i.target = false) ∧
    (r.zone = .margin ↔ w.contains i.target = true ∧ w.depth i.target < 2 * (i.rc : Int)) ∧
    (r.zone = .interior ↔ w.contains i.target = true ∧ 2 * (i.rc : Int) ≤ w.depth i.target) ∧
    (∀ e, w.contains i.target = true → chooseEntry c i stc.table = some e →
      r.snapped = e.point ∧ r.basis = .hit ∧ r.orthoApplied = false ∧
      r.hit = some { handle := e.handle, kind := e.kind, cls := e.cls }) ∧
    ((w.contains i.target = false ∨ chooseEntry c i stc.table = none) →
      r.hit = none ∧ ∃ t' : Point,
        ((i.ortho = false ∨ i.orthoRef = none) → t' = i.target ∧ r.orthoApplied = false) ∧
        (∀ a, i.ortho = true → i.orthoRef = some a → r.orthoApplied = true ∧
          t' = (if (i.target.y.toInt - a.y.toInt).natAbs ≤ (i.target.x.toInt - a.x.toInt).natAbs
                then (⟨i.target.x, a.y⟩ : Point) else ⟨a.x, i.target.y⟩)) ∧
        (i.gridSnap = true ∧ i.grid.present = true → r.basis = .grid ∧
          r.snapped = roundPoint i.grid t') ∧
        (i.gridSnap = false ∨ i.grid.present = false → r.basis = .free ∧ r.snapped = t'))

/-! ## Coordinates, views and the grid -/

/-- Under every view the part can hold, the mapping of a tablet point is exact, in range and
non-decreasing, and the tablet origin maps to the view origin. Grid rounding is exact, steps back one
pitch at the ends of the range, and moves a coordinate by at most one pitch, by at most half of it where
it does not step back. A radius converts to the exact floor, or to 1 where that is 0, and the conversion is
non-decreasing (R3, R9, R13, R14). -/
def Obligations.CoordinatesAreExact : Prop :=
  (∀ (v : View) (pt : TabletPoint), v.Wf →
      (mapPoint v pt).x.toInt = v.ox.toInt + (pt.x.toNat * v.n.toNat / 2 ^ v.shift.toNat : Nat) ∧
      (mapPoint v pt).y.toInt = v.oy.toInt + (pt.y.toNat * v.n.toNat / 2 ^ v.shift.toNat : Nat) ∧
      mapPoint v ⟨0, 0⟩ = ⟨v.ox, v.oy⟩ ∧
      ∀ pt' : TabletPoint,
        (pt.x.toNat ≤ pt'.x.toNat → (mapPoint v pt).x.toInt ≤ (mapPoint v pt').x.toInt) ∧
        (pt.y.toNat ≤ pt'.y.toNat → (mapPoint v pt).y.toInt ≤ (mapPoint v pt').y.toInt)) ∧
  (∀ g p x : Coord, 1 ≤ p.toInt → p.toInt ≤ 16777216 →
      let q := Int.fdiv (x.toInt - g.toInt + Int.fdiv p.toInt 2) p.toInt
      let at' := fun k => g.toInt + p.toInt * k
      let r := (roundAxis g p x).toInt
      (2147483647 < at' q → r = at' (q - 1)) ∧ (at' q < -2147483648 → r = at' (q + 1)) ∧
      (-2147483648 ≤ at' q → at' q ≤ 2147483647 → r = at' q ∧ 2 * (r - x.toInt).natAbs ≤ p.toInt) ∧
      (r - x.toInt).natAbs ≤ p.toInt) ∧
  (∀ (v : View) (r r' : Nat),
      let q := r * v.n.toNat / 2 ^ v.shift.toNat
      (q = 0 → convertRadius v r = 1) ∧ (q ≠ 0 → convertRadius v r = q) ∧
      (r ≤ r' → convertRadius v r ≤ convertRadius v r') ∧
      (r ≤ 1534 → convertRadius v r ≤ 100530690)) ∧
  (∀ (g : Grid) (pt : Point),
    roundPoint g pt = ⟨roundAxis g.gx g.px pt.x, roundAxis g.gy g.py pt.y⟩)

/-- The last word of a view record, on Port B. A record that passes R4 replaces the view, advances the
generation, raises VIEW_CHANGED, sets the re-search flags outside DETACHED and marks the searches in
flight; a record that fails changes nothing and completes with PARAM (R4 to R8), remaining 0 (log 16). -/
def Obligations.ViewRecordTakesEffect : Prop :=
  ∀ (s : State) (c : Progress) (w : Word), NothingDue s → (s.port .b).state = .dataIn →
    (s.port .b).dreq = true → (s.port .b).cmd = some c → c.op = .setView → c.words.length = 5 →
    (parseView (c.words ++ [w]) = none →
      ∃ t, exec (.dataWrite .b w) s = .next t ∧ t = { s with ports := t.ports } ∧
        PortsBecome .b (completedPort (s.port .b) ⟨s.view.gen, 0, 0, 0, 0⟩ .param) id s t) ∧
    (∀ ox oy n sh, parseView (c.words ++ [w]) = some (ox, oy, n, sh) →
      ∃ t, exec (.dataWrite .b w) s = .next t ∧
        t = { s with ports := t.ports, chans := t.chans,
                     view := { ox := ox, oy := oy, n := n, shift := sh, gen := s.view.gen + 1 } } ∧
        PortsBecome .b (completedPort (s.port .b) ⟨s.view.gen + 1, 0, 0, 0, 0⟩ .none)
          (latching [.viewChanged]) s t ∧
        ∀ d, t.chan d = { s.chan d with
          flag := (s.chan d).flag || decide ((s.chan d).state ≠ .detached)
          search := (match (s.chan d).search with
            | .searching b .none i => .searching b .view i
            | other => other) })

/-- The last word of a grid record or a settings record, on Port A: a record that passes its checks
replaces the grid, or the named channel's settings, whole and sets the re-search flags outside DETACHED;
a record that fails changes nothing and completes with PARAM (R11, R41, R42, R45), remaining 0 (log 16). -/
def Obligations.GridAndSettingsRecordsTakeEffect : Prop :=
  ∀ (s : State) (c : Progress) (w : Word), NothingDue s → (s.port .a).state = .dataIn →
    (s.port .a).dreq = true → (s.port .a).cmd = some c →
    (((c.op = .setGrid ∧ c.words.length = 8 ∧ parseGrid (c.words ++ [w]) = none) ∨
      (c.op = .setSnap ∧ c.words.length = 3 ∧ parseSettings (c.words ++ [w]) = none)) →
      ∃ t, exec (.dataWrite .a w) s = .next t ∧ t = { s with ports := t.ports } ∧
        PortsBecome .a (completedPort (s.port .a) .zero .param) id s t) ∧
    (∀ g, c.op = .setGrid → parseGrid (c.words ++ [w]) = some g →
      ∃ t, exec (.dataWrite .a w) s = .next t ∧
        t = { s with ports := t.ports, chans := t.chans, grid := g } ∧
        PortsBecome .a (completedPort (s.port .a) .zero .none) id s t ∧
        ∀ d, t.chan d = { s.chan d with
          flag := (s.chan d).flag || decide ((s.chan d).state ≠ .detached) }) ∧
    (∀ v d, c.op = .setSnap → parseSettings (c.words ++ [w]) = some v → c.input.p0 = chanByte d →
      ∃ t, exec (.dataWrite .a w) s = .next t ∧ t = { s with ports := t.ports, chans := t.chans } ∧
        PortsBecome .a (completedPort (s.port .a) .zero .none) id s t ∧
        t.chan (otherChan d) = s.chan (otherChan d) ∧
        t.chan d = { s.chan d with
          settings := v, flag := (s.chan d).flag || decide ((s.chan d).state ≠ .detached) })

/-! ## Pointer Channels -/

/-- The take of the head report while the unit is QUIET: beyond the deadband it stores point and bitmap,
makes the channel TRACKING, restarts the rest timer and begins a search with the presses; within it, it is
consumed; a PROX_OUT makes a TRACKING or RESTING channel AWAY. The expiry of a RUNNING rest timer takes
the channel from TRACKING to RESTING (R68, R69, R74 to R78, R80). A search begun in OPEN is WAITING,
granted, until its start, which comes before the next event (log 3), and the timer holds its interval, not
the time left (log 5). -/
def Obligations.ReportsAndRestTimerActOnChannel : Prop :=
  (∀ (c : Chan) (r : Report) (rest : List Report) (s : State), NothingDue s →
      (s.chan c).search = .quiet → (s.chan c).queue = r :: rest →
      let ch := s.chan c
      let away := fun (x y : TabletCoord) => ((x.toNat : Int) - y.toNat).natAbs
      ∃ t, exec (.reportTake c) s = .next t ∧ t = { s with ports := t.ports, chans := t.chans } ∧
        t.chan (otherChan c) = s.chan (otherChan c) ∧
        (∀ pt bits, (r.msg = .motion pt bits ∨ r.msg = .proxIn pt bits) →
          let beyond := r.edge = true ∨ ch.state = .detached ∨ ch.state = .away ∨
            ch.settings.deadband.toNat < away pt.x ch.raw.x ∨
            ch.settings.deadband.toNat < away pt.y ch.raw.y
          (beyond → ∃ presses,
            (∀ k, k ∈ presses ↔
              (k = .pick ∧ bits.getLsbD 0 = true ∧ ch.buttons.getLsbD 0 = false) ∨
              (k = .finish ∧ bits.getLsbD 1 = true ∧ ch.buttons.getLsbD 1 = false) ∨
              (k = .cancel ∧ bits.getLsbD 2 = true ∧ ch.buttons.getLsbD 2 = false)) ∧
            presses.Sublist [.pick, .finish, .cancel] ∧
            PortsKept (latching (if ch.state = .tracking then [] else [.channelState c])) s t ∧
            t.chan c = { ch with
              queue := rest, buttons := bits, raw := pt, state := .tracking
              timer := .running (if s.rest = 0 then 600 else 4 * s.rest.toNat)
              search := .waiting (.report pt presses) (decide (s.stc.access = .opened)) }) ∧
          (¬ beyond → PortsKept id s t ∧ t.chan c = { ch with queue := rest })) ∧
        (r.msg = .proxOut →
          (ch.state = .tracking ∨ ch.state = .resting →
            PortsKept (latching [.channelState c]) s t ∧
            t.chan c = { ch with queue := rest, buttons := 0, state := .away, timer := .stopped }) ∧
          (ch.state = .away ∨ ch.state = .detached →
            PortsKept id s t ∧ t.chan c = { ch with queue := rest, buttons := 0 }))) ∧
  (∀ (c : Chan) (n : Nat) (s : State), NothingDue s → (s.chan c).timer = .running n →
      (s.chan c).state = .tracking →
      ∃ t, exec (.restTimerExpiry c) s = .next t ∧ t = { s with ports := t.ports, chans := t.chans } ∧
        PortsKept (latching [.channelState c]) s t ∧ t.chan (otherChan c) = s.chan (otherChan c) ∧
        t.chan c = { s.chan c with state := .resting, timer := .stopped })

/-- RESET CHANNEL: the channel keeps its snap settings and is otherwise as after device reset, but for a
search in flight, which is marked RESET; the outputs tell the reports emptied and the search's fate; only
CHANNEL_STATE_c and STAGE_CHANGED_c are raised; nothing else in the part changes (R47, R82, R83, R112). -/
def Obligations.ResetChannelClears : Prop :=
  ∀ (c : Chan) (n : Byte) (s : State), Ready .a ⟨chanByte c, 0, 0, 0, n⟩ s →
    let ch := s.chan c
    ∃ t, exec (.resetChannel .a) s = .next t ∧ t = { s with ports := t.ports, chans := t.chans } ∧
      t.chan (otherChan c) = s.chan (otherChan c) ∧
      t.chan c = { Channel.reset with settings := ch.settings, search := (t.chan c).search } ∧
      (ch.search = .quiet → (t.chan c).search = .quiet) ∧
      (∀ b g, ch.search = .waiting b g → (t.chan c).search = .quiet) ∧
      (∀ b m i, ch.search = .searching b m i → (t.chan c).search = .searching b .reset i) ∧
      PortsBecome .a (servedPort (s.port .a)
        ⟨lowByte ch.queue.length,
         (match ch.search with | .quiet => 0 | .searching _ _ _ => 1 | .waiting _ _ => 2), 0, 0, 0⟩
        .none)
        (latching ((if ch.state = .detached then [] else [.channelState c]) ++
          (if ch.stage = .idle then [] else [.stageChanged c]))) s t

/-- The offer of the head frame to its channel's queue: classified against the youngest report, or the
last bitmap; a plain report replaces a plain youngest one, joins a queue with room, or is refused; the
frame leaves the holding buffer when it joins, and HOLD follows (R72, R73, R160, R162). -/
def Obligations.FrameOfferJoinsOrRefuses : Prop :=
  ∀ (f : HeldFrame) (rest : List HeldFrame) (s : State), NothingDue s → s.link.holding = f :: rest →
    s.link.hold = holdLevel s.link →
    let ch := s.chan f.chan
    let reference := match ch.queue.getLast? with
      | none => ch.buttons
      | some y => (match y.msg with | .motion _ b => b | .proxIn _ b => b | .proxOut => 0)
    let edge := match f.msg with | .motion _ b => decide (b ≠ reference) | _ => true
    let joins := fun (q : List Report) (t : State) =>
      t = { s with ports := t.ports, chans := t.chans,
                   link := { s.link with holding := rest, hold := t.link.hold } } ∧
      PortsKept id s t ∧ t.chan (otherChan f.chan) = s.chan (otherChan f.chan) ∧
      t.chan f.chan = { ch with queue := q } ∧
      (t.link.hold = true ↔ 2 ≤ rest.length ∨ s.link.state = .overrun)
    ∃ t, exec .frameOffer s = .next t ∧
      (∀ (before : List Report) (y : Report), edge = false → ch.queue = before ++ [y] →
        y.edge = false → joins (before ++ [{ msg := f.msg, edge := false }]) t) ∧
      ((edge = true ∨ ∀ y, ch.queue.getLast? = some y → y.edge = true) → ch.queue.length < 4 →
        joins (ch.queue ++ [{ msg := f.msg, edge := edge }]) t) ∧
      ((edge = true ∨ ∀ y, ch.queue.getLast? = some y → y.edge = true) → 4 ≤ ch.queue.length →
        t = { s with ports := t.ports } ∧ PortsKept id s t)

/-! ## Figures and picks -/

/-- An offer: a queue below 32 records takes the record at its tail, with PICK_AVAILABLE's condition true
and PICK_NEAR_FULL raised at the threshold; a full queue is unchanged and PICK_REFUSED is raised (R115,
R116, R118, R185). -/
def Obligations.PickOfferAcceptsOrRefuses : Prop :=
  ∀ (r : PickRecord) (s : State),
    (s.picks.records.length < 32 →
      let t := offerPick r s
      t = { s with ports := t.ports, pickRaw := true,
                   picks := { s.picks with records := s.picks.records ++ [r] } } ∧
      ∀ p, t.port p = { s.port p with latched := (t.port p).latched } ∧
        ∀ e : Event, e.isIn (t.port p).latched = true ↔ (e.isIn (s.port p).latched = true ∨
          e = .pickAvailable ∨
          (e = .pickNearFull ∧ s.picks.records.length + 1 = s.picks.threshold.toNat))) ∧
    (32 ≤ s.picks.records.length → offerPick r s = raise .pickRefused s)

/-- A press that makes a record offers it, built from the channel's current result, and acts on the
answer: refused, it leaves no trace, but for a CANCEL, which still empties the anchors (R94 to R100).
`pressRecord` names the record. -/
def Obligations.PressesThatMakeRecords : Prop :=
  ∀ (c : Chan) (s : State),
    let ch := s.chan c
    let n := ch.anchors.length
    let record := fun (k : RecordKind) (index : Nat) => ({
      chan := c, kind := k, template := ch.template, index := index, snapped := ch.cursor.snapped,
      raw := ch.cursor.raw, basis := ch.cursor.basis, hit := ch.cursor.hit,
      frameNo := s.overlay.frameNo, gen := ch.cursor.gen } : PickRecord)
    let outcome := fun (p : Press) (k : RecordKind) (index : Nat) (acted : State → State) =>
      pressRecord ch p = some (k, index) ∧
      (s.picks.records.length < 32 →
        handlePress c p s = acted (offerPick (record k index) s)) ∧
      (32 ≤ s.picks.records.length → k ≠ .cancelled →
        handlePress c p s = offerPick (record k index) s) ∧
      (32 ≤ s.picks.records.length → k = .cancelled →
        handlePress c p s = acted (offerPick (record k index) s))
    let becomes := fun (ch' : Channel) (t : State) =>
      raiseIf (decide (ch.stage ≠ ch'.stage)) (.stageChanged c) (t.setChan c ch')
    let picked := ch.anchors ++ [ch.cursor.snapped]
    let completed := fun (list : List Point) =>
      (∀ t, ch.action = some .hold → becomes { ch with stage := .hold, anchors := list } t =
        applyAction c (t.setChan c { ch with anchors := list })) ∧
      (∀ t, ch.action = some .repeated → becomes { ch with stage := .armed, anchors := [] } t =
        applyAction c (t.setChan c { ch with anchors := list })) ∧
      (∀ t, ch.action = some .once → becomes { ch with
          stage := .idle, anchors := [], template := .none, target := none, action := none } t =
        applyAction c (t.setChan c { ch with anchors := list }))
    (ch.stage = .idle → outcome .pick .point 0 id) ∧
    (ch.stage = .armed →
      outcome .pick .anchor 1 (becomes { ch with stage := .banding, anchors := picked })) ∧
    (ch.stage = .banding →
      outcome .cancel .cancelled n (becomes { ch with stage := .armed, anchors := [] }) ∧
      (∀ t, ch.target = some t → n + 1 < t →
        outcome .pick .anchor (n + 1) (becomes { ch with anchors := picked })) ∧
      (∀ t, ch.target = some t → t ≤ n + 1 →
        outcome .pick .done (n + 1) (fun u => applyAction c (u.setChan c { ch with anchors := picked })) ∧
        completed picked) ∧
      (ch.template = .polyline → 2 ≤ n →
        outcome .finish .finish n (fun u => applyAction c (u.setChan c ch)) ∧
        completed ch.anchors))

/-- The presses that make no record: ignored in IDLE and ARMED, a sequence error for FINISH in ARMED and
where a figure cannot be finished, discarded in HOLD, saved or discarded in STALLED (R96, R97, R99, R101
to R104). -/
def Obligations.PressesThatMakeNoRecord : Prop :=
  ∀ (c : Chan) (p : Press) (s : State),
    let ch := s.chan c
    (ch.stage = .idle → p ≠ .pick → handlePress c p s = s) ∧
    (ch.stage = .armed → p = .cancel → handlePress c p s = s) ∧
    (p = .finish → (ch.stage = .armed ∨
        (ch.stage = .banding ∧ (ch.template ≠ .polyline ∨ ch.anchors.length ≤ 1))) →
      handlePress c p s = raise (.seqError c) (raise (.stageChanged c) (s.setChan c { ch with
        stage := .stalled, saved := none,
        ret := some (if ch.stage = .armed then .armed else .banding) }))) ∧
    (ch.stage = .hold → handlePress c p s = raise (.pressDiscarded c) s) ∧
    ((ch.stage = .idle ∧ p ≠ .pick) ∨ (ch.stage = .armed ∧ p ≠ .pick) ∨ ch.stage = .hold ∨
        ch.stage = .stalled ∨ (p = .finish ∧ ch.stage = .banding ∧
          (ch.template ≠ .polyline ∨ ch.anchors.length ≤ 1)) → pressRecord ch p = none) ∧
    (ch.stage = .stalled →
      (ch.saved = none → handlePress c p s = s.setChan c { ch with saved := some p }) ∧
      (ch.saved ≠ none → handlePress c p s = raise (.pressDiscarded c) s))

/-- ARM FIGURE with parameters in range: refused with STAGE in BANDING and STALLED; otherwise the template
is armed with its target count and action, the anchors are emptied, and the outputs tell the stage before
and the anchors discarded (R89, R93, R107, R108). -/
def Obligations.ArmFigureArms : Prop :=
  ∀ (c : Chan) (tpl : Template) (count act n : Byte) (s : State),
    Ready .a ⟨chanByte c, lowByte tpl.code, count, act, n⟩ s →
    (tpl = .polyline → 2 ≤ count.toNat ∧ count.toNat ≤ 16) →
    (tpl ≠ .none → 1 ≤ act.toNat ∧ act.toNat ≤ 3) →
    let ch := s.chan c
    ((ch.stage = .banding ∨ ch.stage = .stalled) →
      ∃ t, exec (.armFigure .a) s = .next t ∧ t = { s with ports := t.ports } ∧
        PortsBecome .a (servedPort (s.port .a) .zero .stage) id s t) ∧
    (ch.stage ≠ .banding → ch.stage ≠ .stalled →
      let after : Stage := if tpl = .none then .idle else .armed
      ∃ t, exec (.armFigure .a) s = .next t ∧ t = { s with ports := t.ports, chans := t.chans } ∧
        t.chan (otherChan c) = s.chan (otherChan c) ∧
        t.chan c = { ch with
          stage := after, template := tpl, anchors := []
          target := (match tpl with
            | .none => none
            | .line | .rect | .circle => some 2
            | .arc3 => some 3
            | .polyline => some count.toNat)
          action := (if tpl = .none then none
            else if act = 1 then some .hold else if act = 2 then some .repeated else some .once) } ∧
        PortsBecome .a (servedPort (s.port .a)
          ⟨lowByte ch.stage.code, lowByte ch.anchors.length, 0, 0, 0⟩ .none)
          (latching (if ch.stage = after then [] else [.stageChanged c])) s t)

/-- CANCEL FIGURE and RELEASE FIGURE by stage: the cancel does nothing in IDLE and ARMED, offers a
CANCELLED record and empties the anchors in BANDING and HOLD, and is refused with STAGE in STALLED; the
release empties the anchors in HOLD, to ARMED or to IDLE, and is refused elsewhere (R107, R109, R110). -/
def Obligations.CancelAndReleaseFollowStage : Prop :=
  ∀ (c : Chan) (n : Byte) (s : State),
    let ch := s.chan c
    (Ready .a ⟨chanByte c, 0, 0, 0, n⟩ s →
      (ch.stage = .idle ∨ ch.stage = .armed →
        ∃ t, exec (.cancelFigure .a) s = .next t ∧ t = { s with ports := t.ports } ∧
          PortsBecome .a (servedPort (s.port .a) ⟨lowByte ch.stage.code, 0, 0, 0, 0⟩ .none) id s t) ∧
      (ch.stage = .banding ∨ ch.stage = .hold →
        let offered := offerPick {
          chan := c, kind := .cancelled, template := ch.template, index := ch.anchors.length,
          snapped := ch.cursor.snapped, raw := ch.cursor.raw, basis := ch.cursor.basis,
          hit := ch.cursor.hit, frameNo := s.overlay.frameNo, gen := ch.cursor.gen } s
        ∃ t, exec (.cancelFigure .a) s = .next t ∧
          t = { s with ports := t.ports, chans := t.chans, picks := offered.picks,
                       pickRaw := offered.pickRaw } ∧
          t.chan (otherChan c) = s.chan (otherChan c) ∧
          t.chan c = { ch with stage := .armed, anchors := [] } ∧
          PortsBecome .a (servedPort (s.port .a) ⟨lowByte ch.stage.code,
            if s.picks.records.length < 32 then 1 else 2, 0, 0, 0⟩ .none)
            (fun l => if s.picks.records.length < 32 then
                latching ((if s.picks.records.length + 1 = s.picks.threshold.toNat
                  then [.pickAvailable, .pickNearFull] else [.pickAvailable]) ++
                  [.stageChanged c]) l
              else latching [.pickRefused, .stageChanged c] l) s t) ∧
      (ch.stage = .stalled →
        ∃ t, exec (.cancelFigure .a) s = .next t ∧ t = { s with ports := t.ports } ∧
          PortsBecome .a (servedPort (s.port .a) .zero .stage) id s t)) ∧
    (∀ toIdle : Bool, Ready .a ⟨chanByte c, if toIdle then 1 else 0, 0, 0, n⟩ s →
      (ch.stage = .hold →
        ∃ t, exec (.releaseFigure .a) s = .next t ∧
          t = { s with ports := t.ports, chans := t.chans } ∧
          t.chan (otherChan c) = s.chan (otherChan c) ∧
          t.chan c = (if toIdle then
            { ch with stage := .idle, anchors := [], template := .none, target := none, action := none }
            else { ch with stage := .armed, anchors := [] }) ∧
          PortsBecome .a (servedPort (s.port .a) ⟨lowByte ch.anchors.length, 0, 0, 0, 0⟩ .none)
            (latching [.stageChanged c]) s t) ∧
      (ch.stage ≠ .hold →
        ∃ t, exec (.releaseFigure .a) s = .next t ∧ t = { s with ports := t.ports } ∧
          PortsBecome .a (servedPort (s.port .a) .zero .stage) id s t))

/-- CLEAR STALL: refused with STAGE outside STALLED; in STALLED the return stage is restored, the slot is
emptied, and the saved press is handled in that stage against the cursor record as it stands (R105 to
R107). Acceptance and completion change the port alone (R170, R172). -/
def Obligations.ClearStallReplays : Prop :=
  ∀ (c : Chan) (n : Byte) (s : State), Ready .a ⟨chanByte c, 0, 0, 0, n⟩ s →
    let ch := s.chan c
    (accept .a s = { s with ports :=
      ⟨{ s.ports.pa with done := false, fault := .none, collide := false }, s.ports.pb⟩ }) ∧
    (∀ (o : ParamBlock) (u : State),
      complete .a o .none u = { u with ports := ⟨completedPort u.ports.pa o .none, u.ports.pb⟩ }) ∧
    (ch.stage ≠ .stalled →
      ∃ t, exec (.clearStall .a) s = .next t ∧ t = { s with ports := t.ports } ∧
        PortsBecome .a (servedPort (s.port .a) .zero .stage) id s t) ∧
    (∀ r, ch.stage = .stalled → ch.ret = some r →
      let restored : Stage := match r with | .armed => .armed | .banding => .banding
      let ended := raise (.stageChanged c) ((accept .a s).setChan c
        { ch with stage := restored, ret := none, saved := none })
      let replayed := match ch.saved with | none => ended | some p => handlePress c p ended
      let made := match ch.saved with | none => none | some p => pressRecord (ended.chan c) p
      exec (.clearStall .a) s = .next (driveAttention s (complete .a
        { p0 := lowByte restored.code
          p1 := (match ch.saved with
            | none => 0 | some .pick => 1 | some .finish => 2 | some .cancel => 3)
          p2 := (match made with | none => 7 | some (k, _) => lowByte k.code)
          p3 := (if made ≠ none ∧ 32 ≤ s.picks.records.length then 1 else 0)
          count := lowByte (replayed.chan c).stage.code } .none replayed)))

/-- READ PICKS: on an empty queue it completes at once with 0 and 0; else the head record is presented. At
the read of a record's last word the record leaves the queue, and the command completes when COUNT
records were transferred or the queue is empty, and presents the next head otherwise. Records have the
layout of R198, outputs the positions of R195 (R118 to R122, R195, R198). -/
def Obligations.ReadPicksTransfersHead : Prop :=
  (∀ (s : State) (n : Byte), Ready .a ⟨0, 0, 0, 0, n⟩ s →
    (s.picks.records = [] →
      ∃ t, exec (.readPicks .a) s = .next t ∧ t = { s with ports := t.ports } ∧
        PortsBecome .a (servedPort (s.port .a) .zero .none) id s t) ∧
    (∀ r rest, s.picks.records = r :: rest →
      ∃ t, exec (.readPicks .a) s = .next t ∧ t = { s with ports := t.ports } ∧
        PortsBecome .a (openedPort (s.port .a) .dataOut (.start .readPicks ⟨0, 0, 0, 0, n⟩
          (if n = 0 then 256 else n.toNat) (pickLayout r))) id s t)) ∧
  (∀ moved held left : Nat, ShowsPicks moved held left (pickOutputs moved held left)) ∧
  (∀ (s : State) (c : Progress) (w : Word) (r : PickRecord) (rest : List PickRecord), NothingDue s →
    (s.port .a).state = .dataOut → (s.port .a).dreq = true → (s.port .a).cmd = some c →
    c.op = .readPicks → c.words = [w] → s.picks.records = r :: rest →
    let l := withPickAvailable (decide (rest ≠ []))
    ∃ t, exec (.dataRead .a) s = .next t ∧
      t = { s with ports := t.ports, pickRaw := decide (rest ≠ []),
                   picks := { s.picks with records := rest } } ∧
      (c.total ≤ c.moved + 1 ∨ rest = [] →
        PortsBecome .a { completedPort (s.port .a)
          (pickOutputs (c.moved + 1) rest.length 0) .none with readData := w } l s t) ∧
      (∀ r' rest', c.moved + 1 < c.total → rest = r' :: rest' →
        PortsBecome .a { s.port .a with
          readData := w,
          burstAttn := (c.burstPos + 1) % (s.port .a).burst.toNat == 0,
          cmd := some { recordCounted c (s.port .a).burst.toNat with words := pickLayout r' } } l s t))

/-! ## Overlay frames -/

/-- FSYNC acts by the buffers: a READY buffer with no pin becomes the front and a build starts into the
other; a READY buffer behind a pin sets swap-pending; a BUILDING buffer is left alone; two FREE buffers
take a build. FRAME_REPEAT is raised in all but the first case. A build starts with the next frame number
and a copy of the view generation, the style and both channels with their figures (R88, R131, R143, R144).
Of two FREE buffers it takes the first (log 11). -/
def Obligations.FsyncFollowsBuffers : Prop :=
  ∀ s : State, NothingDue s →
    let o := s.overlay
    let n := takeSnapshot s
    (n.number = o.frameNo + 1 ∧ n.gen = s.view.gen ∧ n.style = o.style ∧ ∀ c,
      let k := n.chans.get c
      let ch := s.chan c
      k.state = ch.state ∧ k.snapped = ch.cursor.snapped ∧
        k.hitKind = ch.cursor.hit.map (fun h => h.kind) ∧ k.stage = ch.stage ∧
        k.template = ch.template ∧ k.target = ch.target ∧ k.anchors = ch.anchors ∧
        (ch.stage = .stalled → k.ret = ch.ret)) ∧
    (∀ f, (o.bufX = .ready f ∨ o.bufY = .ready f) → anyPinned o = false →
      (o.bufX.state, o.bufY.state) ∈
        [(.ready, .free), (.ready, .front), (.free, .ready), (.front, .ready)] →
      ∃ t, exec .fsync s = .next t ∧ PortsKept id s t ∧ t = { s with
        ports := t.ports
        overlay := { o with
          frameNo := o.frameNo + 1
          bufX := if o.bufX = .ready f then .front f else .building n
          bufY := if o.bufX = .ready f then .building n else .front f } }) ∧
    (anyReady o = true → anyPinned o = true →
      ∃ t, exec .fsync s = .next t ∧ PortsKept (latching [.frameRepeat]) s t ∧
        t = { s with ports := t.ports, overlay := { o with swapPending := true } }) ∧
    (anyReady o = false → anyBuilding o = true →
      ∃ t, exec .fsync s = .next t ∧ PortsKept (latching [.frameRepeat]) s t ∧
        t = { s with ports := t.ports }) ∧
    (o.bufX = .free → o.bufY = .free →
      ∃ t, exec .fsync s = .next t ∧ PortsKept (latching [.frameRepeat]) s t ∧
        t = { s with ports := t.ports,
                     overlay := { o with frameNo := o.frameNo + 1, bufX := .building n } })

/-- The completion of a build: the buffer becomes READY with a frame of at most 48 strokes, the first of
those the guide's tiers place, in order; TRUNCATED is set, and FRAME_TRUNCATED raised, exactly when some
were omitted. The tiers, channel 0 first in each: crosshair, marker, figure, the segments of a polyline,
the ticks, a STALLED channel being drawn as in its return stage (R128, R133 to R142). -/
def Obligations.BuildCompletesWithinBudget : Prop :=
  (∀ n : Snapshot,
    let both := fun (f : Chan → ChanSnapshot → List Stroke) =>
      f .c0 (n.chans.get .c0) ++ f .c1 (n.chans.get .c1)
    allStrokes n = both (crosshairTier n.style) ++ both markerTier ++ both (figureTier n.style) ++
      both segmentTier ++ both (tickTier n.style)) ∧
  (∀ (st : Style) (c : Chan) (k : ChanSnapshot),
    let drawnAs := fun (g : Stage) (r : ReturnStage) => k.stage = g ∨ (k.stage = .stalled ∧ k.ret = some r)
    let banding := drawnAs .banding .banding
    let shown := k.state = .tracking ∨ k.state = .away
    let live := fun (sh : Shape) => ({ shape := sh, chan := c, live := true } : Stroke)
    let still := fun (sh : Shape) => ({ shape := sh, chan := c, live := false } : Stroke)
    (k.state = .tracking → crosshairTier st c k = [live (.crosshair k.snapped st.form)] ∧
      markerTier c k = (k.hitKind.map fun kind => live (.marker k.snapped kind)).toList) ∧
    (k.state ≠ .tracking → crosshairTier st c k = [] ∧ markerTier c k = []) ∧
    (¬ shown ∨ drawnAs .armed .armed ∨ k.stage = .idle →
      figureTier st c k = [] ∧ segmentTier c k = [] ∧ tickTier st c k = []) ∧
    (shown → banding → ∀ a rest, k.anchors = a :: rest →
      (k.template = .line → figureTier st c k = [live (.segment a k.snapped st.band)]) ∧
      (k.template = .rect → figureTier st c k = [live (.rectangle a k.snapped st.band)]) ∧
      (k.template = .circle → figureTier st c k = [live (.circle a k.snapped st.band)]) ∧
      (k.template = .arc3 → rest = [] → figureTier st c k = [live (.segment a k.snapped st.band)]) ∧
      (k.template = .arc3 → ∀ b, rest = [b] →
        figureTier st c k = [live (.arc a b k.snapped st.band)]) ∧
      (k.template = .polyline → ∀ z, k.anchors.getLast? = some z →
        figureTier st c k = [live (.segment z k.snapped st.band)])) ∧
    (shown → k.stage = .hold →
      (∀ a b, k.anchors = [a, b] →
        (k.template = .line → figureTier st c k = [still (.segment a b .solid)]) ∧
        (k.template = .rect → figureTier st c k = [still (.rectangle a b .solid)]) ∧
        (k.template = .circle → figureTier st c k = [still (.circle a b .solid)])) ∧
      (∀ a b d, k.anchors = [a, b, d] → k.template = .arc3 →
        figureTier st c k = [still (.arc a b d .solid)]) ∧
      (k.template = .polyline → figureTier st c k = [])) ∧
    (shown → (banding ∨ k.stage = .hold) →
      (k.template ≠ .polyline → segmentTier c k = []) ∧
      (k.template = .polyline → segmentTier c k =
        (k.anchors.zip k.anchors.tail).map fun ab => still (.segment ab.1 ab.2 .solid)) ∧
      tickTier st c k = if st.ticks = true then k.anchors.map fun a => still (.tick a) else [])) ∧
  ∀ (s : State) (n : Snapshot), NothingDue s →
    ((s.overlay.bufX = .building n ∧ s.overlay.bufY.state ≠ .building) ∨
     (s.overlay.bufY = .building n ∧ s.overlay.bufX.state ≠ .building)) →
    ∃ (t : State) (f : Frame), exec .buildCompletion s = .next t ∧
      t = { s with ports := t.ports, overlay := { s.overlay with
        bufX := if s.overlay.bufX = .building n then .ready f else s.overlay.bufX
        bufY := if s.overlay.bufX = .building n then s.overlay.bufY else .ready f } } ∧
      f.number = n.number ∧ f.gen = n.gen ∧
      (f.blank.ch0 = true ↔ n.chans.ch0.state = .resting) ∧
      (f.blank.ch1 = true ↔ n.chans.ch1.state = .resting) ∧
      f.strokes <+: allStrokes n ∧ f.strokes.length = min 48 (allStrokes n).length ∧
      (f.truncated = true ↔ 48 < (allStrokes n).length) ∧
      PortsKept (latching (if f.truncated = true then [.frameTruncated] else [])) s t

/-- FETCH OVERLAY: the FRONT buffer is pinned and its header and strokes are read one after another, or,
without a front, an EMPTY header is composed and read alone, in the layouts of R198 (R146, R147, R198). The
number an EMPTY fetch will report is kept at acceptance (log 9). -/
def Obligations.FetchOverlayReadsFront : Prop :=
  (∀ (s : State) (n : Byte), Ready .b ⟨0, 0, 0, 0, n⟩ s →
    (s.overlay.bufX.state ≠ .front → s.overlay.bufY.state ≠ .front →
      ∃ t, exec (.fetchOverlay .b) s = .next t ∧ t = { s with ports := t.ports } ∧
        PortsBecome .b (openedPort (s.port .b) .dataOut
          { Progress.start .fetchOverlay ⟨0, 0, 0, 0, n⟩ 1
              [s.overlay.frameNo, s.view.gen.setWidth 16, 8] with
            frameNo := s.overlay.frameNo }) id s t) ∧
    (∀ f : Frame, ((s.overlay.bufX = .front f ∧ s.overlay.bufY.state ≠ .front) ∨
        (s.overlay.bufY = .front f ∧ s.overlay.bufX.state ≠ .front)) →
      ∃ t, exec (.fetchOverlay .b) s = .next t ∧
        t = { s with ports := t.ports, overlay := { s.overlay with
          bufX := if s.overlay.bufX = .front f then .frontPinned f else s.overlay.bufX
          bufY := if s.overlay.bufX = .front f then s.overlay.bufY else .frontPinned f } } ∧
        PortsBecome .b (openedPort (s.port .b) .dataOut
          { Progress.start .fetchOverlay ⟨0, 0, 0, 0, n⟩ (1 + f.strokes.length) (headerLayout f) with
            frameNo := f.number, strokes := f.strokes.length }) id s t)) ∧
  (∀ (s : State) (c : Progress) (w : Word) (f : Frame) (k : Stroke), NothingDue s →
    (s.port .b).state = .dataOut → (s.port .b).dreq = true → (s.port .b).cmd = some c →
    c.op = .fetchOverlay → c.words = [w] → c.moved + 1 < c.total →
    ((s.overlay.bufX = .frontPinned f ∧ s.overlay.bufY.state ≠ .frontPinned) ∨
     (s.overlay.bufY = .frontPinned f ∧ s.overlay.bufX.state ≠ .frontPinned)) →
    f.strokes[c.moved]? = some k →
    ∃ t, exec (.dataRead .b) s = .next t ∧ t = { s with ports := t.ports } ∧
      PortsBecome .b { s.port .b with
        readData := w, burstAttn := (c.burstPos + 1) % (s.port .b).burst.toNat == 0,
        cmd := some { recordCounted c (s.port .b).burst.toNat with words := strokeLayout k } } id s t)

/-- The end of a FETCH OVERLAY, at the read of its last word or at its timeout: the command completes with
the frame's number and stroke count and whether a swap was made, and its pin is released: the buffer is
FRONT again, or, with swap-pending set, the READY buffer becomes the front and a build starts into the
other (R131, R147 to R149). Outputs have the positions of R195; an EMPTY fetch reports the number in the
header it read (log 9). -/
def Obligations.FetchOverlayReleasesPin : Prop :=
  (∀ (s : State) (c : Progress), NothingDue s → (s.port .b).state = .dataOut →
    (s.port .b).dreq = true → (s.port .b).cmd = some c → c.op = .fetchOverlay →
    let out := fun (remaining : Nat) => fetchOutputs c (swapsAtRelease s) remaining
    (∀ remaining, ShowsFetch c.frameNo c.strokes (swapsAtRelease s) remaining (out remaining)) ∧
    (swapsAtRelease s = true ↔ s.overlay.swapPending = true ∧
      (s.overlay.bufX.state = .frontPinned ∨ s.overlay.bufY.state = .frontPinned)) ∧
    (∀ w, c.words = [w] → c.total ≤ c.moved + 1 →
      ∃ t, exec (.dataRead .b) s = .next t ∧
        t = { s with ports := t.ports, overlay := (releasePin s).overlay } ∧
        PortsBecome .b { completedPort (s.port .b) (out 0) .none with readData := w } id s t) ∧
    ∃ t, exec (.dataPhaseTimeout .b) s = .next t ∧
      t = { s with ports := t.ports, overlay := (releasePin s).overlay } ∧
      PortsBecome .b (completedPort (s.port .b) (out (c.total - c.moved)) .timeout) id s t) ∧
  (∀ (o : Overlay) (s : State) (f : Frame), s.overlay = o →
    (o.bufX.state ≠ .frontPinned → o.bufY.state ≠ .frontPinned → releasePin s = s) ∧
    (o.swapPending = false → o.bufX = .frontPinned f → o.bufY.state ≠ .frontPinned →
      releasePin s = { s with overlay := { o with bufX := .front f } }) ∧
    (o.swapPending = false → o.bufY = .frontPinned f → o.bufX.state ≠ .frontPinned →
      releasePin s = { s with overlay := { o with bufY := .front f } }) ∧
    (∀ g, o.swapPending = true → o.bufX = .frontPinned f → o.bufY = .ready g →
      releasePin s = { s with overlay := { o with
        bufX := .building (takeSnapshot s), bufY := .front g, swapPending := false,
        frameNo := o.frameNo + 1 } }) ∧
    (∀ g, o.swapPending = true → o.bufY = .frontPinned f → o.bufX = .ready g →
      releasePin s = { s with overlay := { o with
        bufX := .front g, bufY := .building (takeSnapshot s), swapPending := false,
        frameNo := o.frameNo + 1 } }))

/-! ## The Position Link -/

/-- One link byte, or the expiry of the gap timer, by the assembler: a start byte in HUNT opens a frame
and ends IDLE, other bytes in HUNT are passed over, bytes of a frame are stored up to the length of its
kind, and a broken byte, an unknown kind or a gap is a framing error (R151, R153, R154, R156). In HUNT,
where the gap timer does not run, its expiry has no effect (log 2). -/
def Obligations.LinkBytesAssemble : Prop :=
  ∀ (s : State) (b : Byte), NothingDue s → s.link.hold = holdLevel s.link →
    let answers := fun (i : Instr) (l : Link) (es : List Event) =>
      ∃ t, exec i s = .next t ∧ t = { s with ports := t.ports, link := l } ∧
        PortsKept (latching es) s t
    let failed := { s.link with assembler := .hunt }
    (s.link.assembler = .hunt →
      answers (.byteArrival 0x7E true) { s.link with
        assembler := .inFrame [], state := if s.link.state = .idle then .run else s.link.state } [] ∧
      (b ≠ 0x7E → answers (.byteArrival b true) s.link []) ∧
      answers (.byteArrival b false) s.link [] ∧ answers .gapTimerExpiry s.link []) ∧
    (∀ bytes, s.link.assembler = .inFrame bytes →
      answers (.byteArrival b false) failed [.linkError] ∧
      answers .gapTimerExpiry failed [.linkError] ∧
      (bytes.length = 0 →
        answers (.byteArrival b true) { s.link with assembler := .inFrame [b] } []) ∧
      (∀ addr, bytes = [addr] → b ≠ 1 → b ≠ 2 → b ≠ 3 →
        answers (.byteArrival b true) failed [.linkError]) ∧
      (∀ addr, bytes = [addr] → (b = 1 ∨ b = 2 ∨ b = 3) →
        answers (.byteArrival b true) { s.link with assembler := .inFrame [addr, b] } []) ∧
      (∀ addr kind rest, bytes = addr :: kind :: rest → (kind = 1 ∨ kind = 2) → rest.length < 5 →
        answers (.byteArrival b true) { s.link with assembler := .inFrame (bytes ++ [b]) } []))

/-- The last byte of a frame: a frame that fails its checks is discarded with LINK_ERROR. A good frame is
matched in RUN: it enters the holding buffer, or, when two frames are held, is lost with LINK_OVERRUN and
the link in OVERRUN; unmatched, or in OVERRUN, it is discarded without an event. HOLD follows (R155 to
R157, R159, R162, R163). -/
def Obligations.CompletedFrameIsHeldOrLost : Prop :=
  ∀ (s : State) (b : Byte) (bytes : List Byte), NothingDue s → s.link.assembler = .inFrame bytes →
    ((∃ addr kind rest, bytes = addr :: kind :: rest ∧ (kind = 1 ∨ kind = 2) ∧ rest.length = 5) ∨
     (∃ addr, bytes = [addr, 3])) →
    let hunting := { s.link with assembler := .hunt }
    let answers := fun (l : Link) (es : List Event) =>
      ∃ t, exec (.byteArrival b true) s = .next t ∧
        t = { s with ports := t.ports, link := { l with hold := t.link.hold } } ∧
        PortsKept (latching es) s t ∧
        (t.link.hold = true ↔ 2 ≤ l.holding.length ∨ l.state = .overrun)
    let matched := fun (c : Chan) (addr : Byte) => ∀ n, n < 8 →
      ((s.link.stations.get c).mask.getLsbD n = false →
        (s.link.stations.get c).address.getLsbD n = addr.getLsbD n)
    (goodFrame (bytes ++ [b]) = none → answers hunting [.linkError]) ∧
    (∀ addr m, goodFrame (bytes ++ [b]) = some (addr, m) →
      (∀ c, (matched .c0 addr ∧ c = .c0 ∨ ¬ matched .c0 addr ∧ matched .c1 addr ∧ c = .c1) →
        s.link.state = .run →
        (s.link.holding.length < 2 →
          answers { hunting with holding := s.link.holding ++ [{ chan := c, msg := m }] } []) ∧
        (2 ≤ s.link.holding.length → answers { hunting with state := .overrun } [.linkOverrun])) ∧
      (¬ matched .c0 addr → ¬ matched .c1 addr → answers hunting []) ∧
      (s.link.state ≠ .run → answers hunting []))

/-- A frame is good exactly when its bytes sum to 0, its coordinates are at most 32767 and its button byte
at most 7, and it then carries what its bytes say (R152, R155, R199). -/
def Obligations.GoodFramesAreThoseThatCheck : Prop :=
  (∀ addr sum : Byte, goodFrame [addr, 3, sum] =
    if addr + 3 + sum = 0 then some (addr, .proxOut) else none) ∧
  (∀ addr kind xl xh yl yh btn sum : Byte, kind = 1 ∨ kind = 2 →
    let good := addr + kind + xl + xh + yl + yh + btn + sum = 0 ∧
      xl.toNat + 256 * xh.toNat ≤ 32767 ∧ yl.toNat + 256 * yh.toNat ≤ 32767 ∧ btn.toNat ≤ 7
    (¬ good → goodFrame [addr, kind, xl, xh, yl, yh, btn, sum] = none) ∧
    (good → ∃ (pt : TabletPoint) (bits : BitVec 3),
      pt.x.toNat = xl.toNat + 256 * xh.toNat ∧ pt.y.toNat = yl.toNat + 256 * yh.toNat ∧
      bits.toNat = btn.toNat ∧
      goodFrame [addr, kind, xl, xh, yl, yh, btn, sum] =
        some (addr, if kind = 1 then .motion pt bits else .proxIn pt bits)))

/-! ## Commands that report and clear -/

/-- FLUSH PICKS, CLEAR LINK, READ EVENTS and CLEAR EVENTS complete at acceptance with what they report;
they empty the Pick Queue, end an overrun, change nothing, and clear the named events of the port's own
set, PICK_AVAILABLE staying latched while its condition is true (R124, R164, R185 to R187). -/
def Obligations.ReportingCommandsComplete : Prop :=
  ∀ (s : State) (n : Byte),
    (Ready .a ⟨0, 0, 0, 0, n⟩ s →
      (∃ t, exec (.flushPicks .a) s = .next t ∧
        t = { s with ports := t.ports, pickRaw := false, picks := { s.picks with records := [] } } ∧
        PortsBecome .a (servedPort (s.port .a) ⟨lowByte s.picks.records.length, 0, 0, 0, 0⟩ .none)
          (withPickAvailable false) s t) ∧
      ∃ t, exec (.clearLink .a) s = .next t ∧
        t = { s with ports := t.ports, link := t.link } ∧
        t.link = { s.link with
          state := (if s.link.state = .overrun then .run else s.link.state)
          assembler := (if s.link.state = .overrun then .hunt else s.link.assembler)
          hold := t.link.hold } ∧
        (t.link.hold = true ↔ 2 ≤ s.link.holding.length) ∧
        PortsBecome .a (servedPort (s.port .a)
          ⟨lowByte s.link.state.code, lowByte s.link.holding.length, 0, 0, 0⟩ .none) id s t) ∧
    (∀ p, Ready p ⟨0, 0, 0, 0, n⟩ s →
      ∃ t, exec (.readEvents p) s = .next t ∧ t = { s with ports := t.ports } ∧
        PortsBecome p (servedPort (s.port p)
          ⟨(s.port p).latched.setWidth 8, ((s.port p).latched >>> 8).setWidth 8,
           ((s.port p).latched >>> 16).setWidth 8,
           (if s.pickRaw = true then 1 else 0) + (if (s.port p).mode = .edge then 2 else 0), 0⟩ .none)
          id s t) ∧
    (∀ (p : PortId) (x y z : Byte), Ready p ⟨x, y, z, 0, n⟩ s → x.getLsbD 7 = false →
      y.getLsbD 7 = false →
      let left : EventSet := ((s.port p).latched &&& ~~~(z ++ y ++ x)) |||
        (if s.pickRaw = true then Event.pickAvailable.toSet else 0)
      ∃ t, exec (.clearEvents p) s = .next t ∧ t = { s with ports := t.ports } ∧
        PortsBecome p { servedPort (s.port p)
          ⟨left.setWidth 8, (left >>> 8).setWidth 8, (left >>> 16).setWidth 8, 0, 0⟩ .none with
          latched := left } id s t)

/-! ## Codes and records -/

/-- Every command has the code of the command table, which names it; a code that no command has names none.
Every event has its position in an event set, 0 to 23 but for the two reserved ones (R195, R196). -/
def Obligations.CommandCodesNameCommands : Prop :=
  (Command.all.map Command.code = [0x10, 0x11, 0x12, 0x13, 0x18, 0x19, 0x1A, 0x20, 0x21, 0x28, 0x29,
      0x2A, 0x2B, 0x30, 0x31, 0x32, 0x38, 0x39, 0x40, 0x41, 0x42, 0x50, 0x51, 0x52, 0x58, 0x5F] ∧
    Command.all = [.loadCandidates, .removeCandidates, .setWindow, .clearTable, .setGrid, .setSnap,
      .setRest, .resetChannel, .readCursor, .armFigure, .cancelFigure, .releaseFigure, .clearStall,
      .readPicks, .flushPicks, .setPickThreshold, .setStation, .clearLink, .setView, .setStyle,
      .fetchOverlay, .readEvents, .clearEvents, .setEventMask, .setBurst, .identify]) ∧
  (([.c0, .c1].flatMap fun c => [Event.hitChanged c, .stageChanged c, .seqError c, .windowNear c,
        .windowExit c, .channelState c, .pressDiscarded c]).map Event.pos =
      [0, 1, 2, 3, 4, 5, 6, 8, 9, 10, 11, 12, 13, 14] ∧
    [Event.pickAvailable, .pickNearFull, .pickRefused, .linkError, .linkOverrun, .frameRepeat,
        .frameTruncated, .viewChanged].map Event.pos = [16, 17, 18, 19, 20, 21, 22, 23] ∧
    ∀ (e : Event) (set : EventSet), e.isIn set = set.getLsbD e.pos) ∧
  (∀ c : Command, commandOfCode c.code = some c) ∧
  (∀ (code : Byte) (c : Command), commandOfCode code = some c → c.code = code) ∧
  (∀ (p : PortId) (code : Byte), code ∉ Command.all.map Command.code →
    rowOfCode p code = .unknownCommand p code)

/-- The words of each data-in record, laid out as R197 gives them, are read back as the record, with every
field at every value the layout admits (R193, R197). -/
def Obligations.RecordsReadBack : Prop :=
  let lo := fun (x : Coord) => (x.setWidth 16 : Word)
  let hi := fun (x : Coord) => ((x >>> 16).setWidth 16 : Word)
  let bitOf := fun (b : Bool) => if b then 1 else 0
  (∀ e : Entry, anySeat e.seats = true →
    parseEntry [e.handle, wordOf (e.kind.code + 16 * e.cls.toNat + 256 * e.layer.toNat),
      wordOf (bitOf e.seats.ch0 + 2 * bitOf e.seats.ch1), lo e.point.x, hi e.point.x, lo e.point.y,
      hi e.point.y] = some e) ∧
  (∀ (h : Word) (k : Option SnapKind),
    parseRemoval [h, wordOf (match k with | none => 15 | some k => k.code)] = some (h, k)) ∧
  (∀ x0 y0 x1 y1 : Coord, x0.toInt ≤ x1.toInt → y0.toInt ≤ y1.toInt →
    parseWindow [0, lo x0, hi x0, lo y0, hi y0, lo x1, hi x1, lo y1, hi y1] =
      some (.rect x0 y0 x1 y1)) ∧
  (∀ w1 w2 w3 w4 w5 w6 w7 w8, parseWindow [1, w1, w2, w3, w4, w5, w6, w7, w8] = some .none) ∧
  (∀ v : View, v.Wf →
    parseView [lo v.ox, hi v.ox, lo v.oy, hi v.oy, v.n, wordOf v.shift.toNat] =
      some (v.ox, v.oy, v.n, v.shift)) ∧
  (∀ g : Grid, g.present = true → g.Wf →
    parseGrid [1, lo g.gx, hi g.gx, lo g.gy, hi g.gy, lo g.px, hi g.px, lo g.py, hi g.py] =
      some g) ∧
  (∀ w1 w2 w3 w4 w5 w6 w7 w8, parseGrid [0, w1, w2, w3, w4, w5, w6, w7, w8] = some .absent) ∧
  (∀ v : Settings, v.radius ≠ 0 →
    parseSettings [wordOf v.kinds.toNat, v.layers, wordOf v.radius.toNat,
      wordOf (v.deadband.toNat + 256 * bitOf v.gridSnap + 512 * bitOf v.ortho)] = some v)

/-- The checks of the data-in records: each record kind is refused exactly in the cases R197 lists (R4, R11,
R33, R35, R36, R41, R197). -/
def Obligations.RecordsRefusedExactly : Prop :=
  (∀ (w : Word) (lo len : Nat), field w lo len = (w >>> lo).toNat % 2 ^ len) ∧
  (∀ w0 w1 w2 w3 w4 w5 w6, parseEntry [w0, w1, w2, w3, w4, w5, w6] = none ↔
    (field w1 0 4 < 1 ∨ 6 < field w1 0 4 ∨ 15 < field w1 8 8 ∨ field w2 0 2 = 0 ∨
      field w1 6 2 ≠ 0 ∨ field w2 2 14 ≠ 0)) ∧
  (∀ w0 w1, parseRemoval [w0, w1] = none ↔
    (((field w1 0 4 < 1 ∨ 6 < field w1 0 4) ∧ field w1 0 4 ≠ 15) ∨ field w1 4 12 ≠ 0)) ∧
  (∀ w0 w1 w2 w3 w4 w5 w6 w7 w8, parseWindow [w0, w1, w2, w3, w4, w5, w6, w7, w8] = none ↔
    (field w0 1 15 ≠ 0 ∨ (field w0 0 1 = 0 ∧
      (((w6 ++ w5 : Coord).toInt < (w2 ++ w1 : Coord).toInt) ∨
       ((w8 ++ w7 : Coord).toInt < (w4 ++ w3 : Coord).toInt))))) ∧
  (∀ w0 w1 w2 w3 w4 w5, parseView [w0, w1, w2, w3, w4, w5] = none ↔
    (w4.toNat = 0 ∨ 15 < field w5 0 8 ∨ field w5 8 8 ≠ 0 ∨
      2147483647 < (w1 ++ w0 : Coord).toInt + (32767 * w4.toNat / 2 ^ field w5 0 8 : Nat) ∨
      2147483647 < (w3 ++ w2 : Coord).toInt + (32767 * w4.toNat / 2 ^ field w5 0 8 : Nat))) ∧
  (∀ w0 w1 w2 w3 w4 w5 w6 w7 w8, parseGrid [w0, w1, w2, w3, w4, w5, w6, w7, w8] = none ↔
    (field w0 1 15 ≠ 0 ∨ (field w0 0 1 = 1 ∧
      ((w6 ++ w5 : Coord).toInt < 1 ∨ 16777216 < (w6 ++ w5 : Coord).toInt ∨
       (w8 ++ w7 : Coord).toInt < 1 ∨ 16777216 < (w8 ++ w7 : Coord).toInt)))) ∧
  (∀ w0 w1 w2 w3, parseSettings [w0, w1, w2, w3] = none ↔
    (w2.toNat = 0 ∨ 1023 < w2.toNat ∨ 15 < field w3 0 8 ∨ field w0 6 10 ≠ 0 ∨ field w3 10 6 ≠ 0))

/-! ## Invariants -/

/-- Every invariant holds of the part right after device reset. -/
def Obligations.ResetStateIsWellFormed : Prop :=
  PortsWf .reset ∧ AttentionWf .reset ∧ PicksWf .reset ∧ EventSetsWf .reset ∧ TurnsWf .reset ∧
  EditQueueWf .reset ∧
  CapacityWf .reset ∧ TableWf .reset ∧ BothChannels Channel.QueueWf .reset ∧
  BothChannels Channel.StateWf .reset ∧ BothChannels (fun ch => ch.cursor.Wf) .reset ∧
  BothChannels Channel.FigureWf .reset ∧ OverlayWf .reset ∧ LinkWf .reset ∧
  State.reset.view.Wf ∧ State.reset.grid.Wf

/-- Every step keeps the attention outputs in agreement with the grounds, and keeps PICK_AVAILABLE latched
in both sets exactly while the Pick Queue holds records, the queue at 32 records or fewer, and the reserved
positions of the latched sets and masks at 0 (R114, R118, R184, R185, R189, R190, R196). -/
def Obligations.StepKeepsAttentionAndPickEvents : Prop :=
  (∀ s t : State, step s = .next t → AttentionWf s → AttentionWf t) ∧
  (∀ s t : State, step s = .next t → PicksWf s → PicksWf t) ∧
  (∀ s t : State, step s = .next t → EventSetsWf s → EventSetsWf t)

/-- Every step keeps the turns of the table: no search is in flight while a batch is applied, and the edit
queue is empty in OPEN (R21, R22, R39). A granted search counts as one that has not started (log 3). -/
def Obligations.StepKeepsTableTurns : Prop :=
  ∀ s t : State, step s = .next t → PortsWf s ∧ TurnsWf s → PortsWf t ∧ TurnsWf t

/-- Every step keeps the capacities of the table: at most 16 queued items, one reservation for each INSERT
not yet applied, and at most 1024 USED or reserved slots (R19, R20). -/
def Obligations.StepKeepsTableCapacity : Prop :=
  ∀ s t : State, step s = .next t →
    PortsWf s ∧ TurnsWf s ∧ EditQueueWf s ∧ CapacityWf s →
    PortsWf t ∧ TurnsWf t ∧ EditQueueWf t ∧ CapacityWf t

/-- Every step keeps the entries of the table: none without a seat, each inside the window of each of its
seats, no two of one identity (R16, R17). -/
def Obligations.StepKeepsTableEntries : Prop :=
  ∀ s t : State, step s = .next t → TableWf s → TableWf t

/-- Every step keeps the report queues, the rest timers and re-search flags, and the cursor records in the
cases the guide lists (R45, R65, R67, R71). -/
def Obligations.StepKeepsChannelsWellFormed : Prop :=
  ∀ s t : State, step s = .next t →
    BothChannels (fun ch => ch.QueueWf ∧ ch.StateWf ∧ ch.cursor.Wf) s →
    BothChannels (fun ch => ch.QueueWf ∧ ch.StateWf ∧ ch.cursor.Wf) t

/-- Every step keeps the figure sequencers: stage, template, target, action, anchor count, return stage and
saved press agree, and the target count is the one the template names (R88, R89, R91, R92). -/
def Obligations.StepKeepsFiguresWellFormed : Prop :=
  ∀ s t : State, step s = .next t → BothChannels Channel.FigureWf s →
    BothChannels Channel.FigureWf t

/-- Every step keeps the overlay buffers in one of the configurations of R127, with at most one front, and
every frame within 48 strokes (R127, R141). -/
def Obligations.StepKeepsOverlayConfiguration : Prop :=
  ∀ s t : State, step s = .next t → OverlayWf s → OverlayWf t

/-- Every step keeps the link, the view and the grid well formed: at most two frames held, HOLD at its
level, a view whose mapping cannot overflow, pitches in range (R4, R10, R156, R159, R162). -/
def Obligations.StepKeepsLinkViewAndGrid : Prop :=
  ∀ s t : State, step s = .next t → LinkWf s ∧ s.view.Wf ∧ s.grid.Wf →
    LinkWf t ∧ t.view.Wf ∧ t.grid.Wf
end

