-- ==== Sys2Proof/Laws/State.lean ====
section
/-! SUPPORT. One lemma for each field under each plain update of the state, true by `rfl`. -/
namespace Sys2Proof.Machine

@[simp] theorem setPort_chans (s : State) (p : PortId) (v : PortState) : (s.setPort p v).chans = s.chans := rfl
@[simp] theorem setPort_stc (s : State) (p : PortId) (v : PortState) : (s.setPort p v).stc = s.stc := rfl
@[simp] theorem setPort_view (s : State) (p : PortId) (v : PortState) : (s.setPort p v).view = s.view := rfl
@[simp] theorem setPort_grid (s : State) (p : PortId) (v : PortState) : (s.setPort p v).grid = s.grid := rfl
@[simp] theorem setPort_picks (s : State) (p : PortId) (v : PortState) : (s.setPort p v).picks = s.picks := rfl
@[simp] theorem setPort_overlay (s : State) (p : PortId) (v : PortState) : (s.setPort p v).overlay = s.overlay := rfl
@[simp] theorem setPort_link (s : State) (p : PortId) (v : PortState) : (s.setPort p v).link = s.link := rfl
@[simp] theorem setPort_rest (s : State) (p : PortId) (v : PortState) : (s.setPort p v).rest = s.rest := rfl
@[simp] theorem setPort_pickRaw (s : State) (p : PortId) (v : PortState) : (s.setPort p v).pickRaw = s.pickRaw := rfl
@[simp] theorem setPort_pending (s : State) (p : PortId) (v : PortState) : (s.setPort p v).pending = s.pending := rfl

@[simp] theorem updPort_chans (s : State) (p : PortId) (f : PortState → PortState) : (s.updPort p f).chans = s.chans := rfl
@[simp] theorem updPort_stc (s : State) (p : PortId) (f : PortState → PortState) : (s.updPort p f).stc = s.stc := rfl
@[simp] theorem updPort_view (s : State) (p : PortId) (f : PortState → PortState) : (s.updPort p f).view = s.view := rfl
@[simp] theorem updPort_grid (s : State) (p : PortId) (f : PortState → PortState) : (s.updPort p f).grid = s.grid := rfl
@[simp] theorem updPort_picks (s : State) (p : PortId) (f : PortState → PortState) : (s.updPort p f).picks = s.picks := rfl
@[simp] theorem updPort_overlay (s : State) (p : PortId) (f : PortState → PortState) : (s.updPort p f).overlay = s.overlay := rfl
@[simp] theorem updPort_link (s : State) (p : PortId) (f : PortState → PortState) : (s.updPort p f).link = s.link := rfl
@[simp] theorem updPort_rest (s : State) (p : PortId) (f : PortState → PortState) : (s.updPort p f).rest = s.rest := rfl
@[simp] theorem updPort_pickRaw (s : State) (p : PortId) (f : PortState → PortState) : (s.updPort p f).pickRaw = s.pickRaw := rfl
@[simp] theorem updPort_pending (s : State) (p : PortId) (f : PortState → PortState) : (s.updPort p f).pending = s.pending := rfl

@[simp] theorem setChan_ports (s : State) (c : Chan) (v : Channel) : (s.setChan c v).ports = s.ports := rfl
@[simp] theorem setChan_stc (s : State) (c : Chan) (v : Channel) : (s.setChan c v).stc = s.stc := rfl
@[simp] theorem setChan_view (s : State) (c : Chan) (v : Channel) : (s.setChan c v).view = s.view := rfl
@[simp] theorem setChan_grid (s : State) (c : Chan) (v : Channel) : (s.setChan c v).grid = s.grid := rfl
@[simp] theorem setChan_picks (s : State) (c : Chan) (v : Channel) : (s.setChan c v).picks = s.picks := rfl
@[simp] theorem setChan_overlay (s : State) (c : Chan) (v : Channel) : (s.setChan c v).overlay = s.overlay := rfl
@[simp] theorem setChan_link (s : State) (c : Chan) (v : Channel) : (s.setChan c v).link = s.link := rfl
@[simp] theorem setChan_rest (s : State) (c : Chan) (v : Channel) : (s.setChan c v).rest = s.rest := rfl
@[simp] theorem setChan_pickRaw (s : State) (c : Chan) (v : Channel) : (s.setChan c v).pickRaw = s.pickRaw := rfl
@[simp] theorem setChan_pending (s : State) (c : Chan) (v : Channel) : (s.setChan c v).pending = s.pending := rfl

@[simp] theorem updChan_ports (s : State) (c : Chan) (f : Channel → Channel) : (s.updChan c f).ports = s.ports := rfl
@[simp] theorem updChan_stc (s : State) (c : Chan) (f : Channel → Channel) : (s.updChan c f).stc = s.stc := rfl
@[simp] theorem updChan_view (s : State) (c : Chan) (f : Channel → Channel) : (s.updChan c f).view = s.view := rfl
@[simp] theorem updChan_grid (s : State) (c : Chan) (f : Channel → Channel) : (s.updChan c f).grid = s.grid := rfl
@[simp] theorem updChan_picks (s : State) (c : Chan) (f : Channel → Channel) : (s.updChan c f).picks = s.picks := rfl
@[simp] theorem updChan_overlay (s : State) (c : Chan) (f : Channel → Channel) : (s.updChan c f).overlay = s.overlay := rfl
@[simp] theorem updChan_link (s : State) (c : Chan) (f : Channel → Channel) : (s.updChan c f).link = s.link := rfl
@[simp] theorem updChan_rest (s : State) (c : Chan) (f : Channel → Channel) : (s.updChan c f).rest = s.rest := rfl
@[simp] theorem updChan_pickRaw (s : State) (c : Chan) (f : Channel → Channel) : (s.updChan c f).pickRaw = s.pickRaw := rfl
@[simp] theorem updChan_pending (s : State) (c : Chan) (f : Channel → Channel) : (s.updChan c f).pending = s.pending := rfl

@[simp] theorem raise_chans (e : Event) (s : State) : (raise e s).chans = s.chans := rfl
@[simp] theorem raise_stc (e : Event) (s : State) : (raise e s).stc = s.stc := rfl
@[simp] theorem raise_view (e : Event) (s : State) : (raise e s).view = s.view := rfl
@[simp] theorem raise_grid (e : Event) (s : State) : (raise e s).grid = s.grid := rfl
@[simp] theorem raise_picks (e : Event) (s : State) : (raise e s).picks = s.picks := rfl
@[simp] theorem raise_overlay (e : Event) (s : State) : (raise e s).overlay = s.overlay := rfl
@[simp] theorem raise_link (e : Event) (s : State) : (raise e s).link = s.link := rfl
@[simp] theorem raise_rest (e : Event) (s : State) : (raise e s).rest = s.rest := rfl
@[simp] theorem raise_pickRaw (e : Event) (s : State) : (raise e s).pickRaw = s.pickRaw := rfl
@[simp] theorem raise_pending (e : Event) (s : State) : (raise e s).pending = s.pending := rfl

@[simp] theorem followPicks_chans (s : State) : (followPicks s).chans = s.chans := rfl
@[simp] theorem followPicks_stc (s : State) : (followPicks s).stc = s.stc := rfl
@[simp] theorem followPicks_view (s : State) : (followPicks s).view = s.view := rfl
@[simp] theorem followPicks_grid (s : State) : (followPicks s).grid = s.grid := rfl
@[simp] theorem followPicks_picks (s : State) : (followPicks s).picks = s.picks := rfl
@[simp] theorem followPicks_overlay (s : State) : (followPicks s).overlay = s.overlay := rfl
@[simp] theorem followPicks_link (s : State) : (followPicks s).link = s.link := rfl
@[simp] theorem followPicks_rest (s : State) : (followPicks s).rest = s.rest := rfl
@[simp] theorem followPicks_pending (s : State) : (followPicks s).pending = s.pending := rfl

@[simp] theorem driveAttention_chans (o s : State) : (driveAttention o s).chans = s.chans := rfl
@[simp] theorem driveAttention_stc (o s : State) : (driveAttention o s).stc = s.stc := rfl
@[simp] theorem driveAttention_view (o s : State) : (driveAttention o s).view = s.view := rfl
@[simp] theorem driveAttention_grid (o s : State) : (driveAttention o s).grid = s.grid := rfl
@[simp] theorem driveAttention_picks (o s : State) : (driveAttention o s).picks = s.picks := rfl
@[simp] theorem driveAttention_overlay (o s : State) : (driveAttention o s).overlay = s.overlay := rfl
@[simp] theorem driveAttention_link (o s : State) : (driveAttention o s).link = s.link := rfl
@[simp] theorem driveAttention_rest (o s : State) : (driveAttention o s).rest = s.rest := rfl
@[simp] theorem driveAttention_pickRaw (o s : State) : (driveAttention o s).pickRaw = s.pickRaw := rfl
@[simp] theorem driveAttention_pending (o s : State) : (driveAttention o s).pending = s.pending := rfl

@[simp] theorem driveHold_ports (s : State) : (driveHold s).ports = s.ports := rfl
@[simp] theorem driveHold_chans (s : State) : (driveHold s).chans = s.chans := rfl
@[simp] theorem driveHold_stc (s : State) : (driveHold s).stc = s.stc := rfl
@[simp] theorem driveHold_view (s : State) : (driveHold s).view = s.view := rfl
@[simp] theorem driveHold_grid (s : State) : (driveHold s).grid = s.grid := rfl
@[simp] theorem driveHold_picks (s : State) : (driveHold s).picks = s.picks := rfl
@[simp] theorem driveHold_overlay (s : State) : (driveHold s).overlay = s.overlay := rfl
@[simp] theorem driveHold_rest (s : State) : (driveHold s).rest = s.rest := rfl
@[simp] theorem driveHold_pickRaw (s : State) : (driveHold s).pickRaw = s.pickRaw := rfl
@[simp] theorem driveHold_pending (s : State) : (driveHold s).pending = s.pending := rfl

@[simp] theorem collide_chans (p : PortId) (s : State) : (collide p s).chans = s.chans := rfl
@[simp] theorem collide_stc (p : PortId) (s : State) : (collide p s).stc = s.stc := rfl
@[simp] theorem collide_view (p : PortId) (s : State) : (collide p s).view = s.view := rfl
@[simp] theorem collide_grid (p : PortId) (s : State) : (collide p s).grid = s.grid := rfl
@[simp] theorem collide_picks (p : PortId) (s : State) : (collide p s).picks = s.picks := rfl
@[simp] theorem collide_overlay (p : PortId) (s : State) : (collide p s).overlay = s.overlay := rfl
@[simp] theorem collide_link (p : PortId) (s : State) : (collide p s).link = s.link := rfl
@[simp] theorem collide_rest (p : PortId) (s : State) : (collide p s).rest = s.rest := rfl
@[simp] theorem collide_pickRaw (p : PortId) (s : State) : (collide p s).pickRaw = s.pickRaw := rfl
@[simp] theorem collide_pending (p : PortId) (s : State) : (collide p s).pending = s.pending := rfl

@[simp] theorem complete_chans (p : PortId) (o : ParamBlock) (f : FaultCode) (s : State) : (complete p o f s).chans = s.chans := rfl
@[simp] theorem complete_stc (p : PortId) (o : ParamBlock) (f : FaultCode) (s : State) : (complete p o f s).stc = s.stc := rfl
@[simp] theorem complete_view (p : PortId) (o : ParamBlock) (f : FaultCode) (s : State) : (complete p o f s).view = s.view := rfl
@[simp] theorem complete_grid (p : PortId) (o : ParamBlock) (f : FaultCode) (s : State) : (complete p o f s).grid = s.grid := rfl
@[simp] theorem complete_picks (p : PortId) (o : ParamBlock) (f : FaultCode) (s : State) : (complete p o f s).picks = s.picks := rfl
@[simp] theorem complete_overlay (p : PortId) (o : ParamBlock) (f : FaultCode) (s : State) : (complete p o f s).overlay = s.overlay := rfl
@[simp] theorem complete_link (p : PortId) (o : ParamBlock) (f : FaultCode) (s : State) : (complete p o f s).link = s.link := rfl
@[simp] theorem complete_rest (p : PortId) (o : ParamBlock) (f : FaultCode) (s : State) : (complete p o f s).rest = s.rest := rfl
@[simp] theorem complete_pickRaw (p : PortId) (o : ParamBlock) (f : FaultCode) (s : State) : (complete p o f s).pickRaw = s.pickRaw := rfl
@[simp] theorem complete_pending (p : PortId) (o : ParamBlock) (f : FaultCode) (s : State) : (complete p o f s).pending = s.pending := rfl

@[simp] theorem refuse_chans (p : PortId) (f : FaultCode) (s : State) : (refuse p f s).chans = s.chans := rfl
@[simp] theorem refuse_stc (p : PortId) (f : FaultCode) (s : State) : (refuse p f s).stc = s.stc := rfl
@[simp] theorem refuse_view (p : PortId) (f : FaultCode) (s : State) : (refuse p f s).view = s.view := rfl
@[simp] theorem refuse_grid (p : PortId) (f : FaultCode) (s : State) : (refuse p f s).grid = s.grid := rfl
@[simp] theorem refuse_picks (p : PortId) (f : FaultCode) (s : State) : (refuse p f s).picks = s.picks := rfl
@[simp] theorem refuse_overlay (p : PortId) (f : FaultCode) (s : State) : (refuse p f s).overlay = s.overlay := rfl
@[simp] theorem refuse_link (p : PortId) (f : FaultCode) (s : State) : (refuse p f s).link = s.link := rfl
@[simp] theorem refuse_rest (p : PortId) (f : FaultCode) (s : State) : (refuse p f s).rest = s.rest := rfl
@[simp] theorem refuse_pickRaw (p : PortId) (f : FaultCode) (s : State) : (refuse p f s).pickRaw = s.pickRaw := rfl
@[simp] theorem refuse_pending (p : PortId) (f : FaultCode) (s : State) : (refuse p f s).pending = s.pending := rfl

@[simp] theorem accept_chans (p : PortId) (s : State) : (accept p s).chans = s.chans := rfl
@[simp] theorem accept_stc (p : PortId) (s : State) : (accept p s).stc = s.stc := rfl
@[simp] theorem accept_view (p : PortId) (s : State) : (accept p s).view = s.view := rfl
@[simp] theorem accept_grid (p : PortId) (s : State) : (accept p s).grid = s.grid := rfl
@[simp] theorem accept_picks (p : PortId) (s : State) : (accept p s).picks = s.picks := rfl
@[simp] theorem accept_overlay (p : PortId) (s : State) : (accept p s).overlay = s.overlay := rfl
@[simp] theorem accept_link (p : PortId) (s : State) : (accept p s).link = s.link := rfl
@[simp] theorem accept_rest (p : PortId) (s : State) : (accept p s).rest = s.rest := rfl
@[simp] theorem accept_pickRaw (p : PortId) (s : State) : (accept p s).pickRaw = s.pickRaw := rfl
@[simp] theorem accept_pending (p : PortId) (s : State) : (accept p s).pending = s.pending := rfl

@[simp] theorem updCmd_chans (p : PortId) (f : Progress → Progress) (s : State) : (updCmd p f s).chans = s.chans := rfl
@[simp] theorem updCmd_stc (p : PortId) (f : Progress → Progress) (s : State) : (updCmd p f s).stc = s.stc := rfl
@[simp] theorem updCmd_view (p : PortId) (f : Progress → Progress) (s : State) : (updCmd p f s).view = s.view := rfl
@[simp] theorem updCmd_grid (p : PortId) (f : Progress → Progress) (s : State) : (updCmd p f s).grid = s.grid := rfl
@[simp] theorem updCmd_picks (p : PortId) (f : Progress → Progress) (s : State) : (updCmd p f s).picks = s.picks := rfl
@[simp] theorem updCmd_overlay (p : PortId) (f : Progress → Progress) (s : State) : (updCmd p f s).overlay = s.overlay := rfl
@[simp] theorem updCmd_link (p : PortId) (f : Progress → Progress) (s : State) : (updCmd p f s).link = s.link := rfl
@[simp] theorem updCmd_rest (p : PortId) (f : Progress → Progress) (s : State) : (updCmd p f s).rest = s.rest := rfl
@[simp] theorem updCmd_pickRaw (p : PortId) (f : Progress → Progress) (s : State) : (updCmd p f s).pickRaw = s.pickRaw := rfl
@[simp] theorem updCmd_pending (p : PortId) (f : Progress → Progress) (s : State) : (updCmd p f s).pending = s.pending := rfl

@[simp] theorem joinItem_ports (k : EditKind) (s : State) : (joinItem k s).ports = s.ports := rfl
@[simp] theorem joinItem_chans (k : EditKind) (s : State) : (joinItem k s).chans = s.chans := rfl
@[simp] theorem joinItem_view (k : EditKind) (s : State) : (joinItem k s).view = s.view := rfl
@[simp] theorem joinItem_grid (k : EditKind) (s : State) : (joinItem k s).grid = s.grid := rfl
@[simp] theorem joinItem_picks (k : EditKind) (s : State) : (joinItem k s).picks = s.picks := rfl
@[simp] theorem joinItem_overlay (k : EditKind) (s : State) : (joinItem k s).overlay = s.overlay := rfl
@[simp] theorem joinItem_link (k : EditKind) (s : State) : (joinItem k s).link = s.link := rfl
@[simp] theorem joinItem_rest (k : EditKind) (s : State) : (joinItem k s).rest = s.rest := rfl
@[simp] theorem joinItem_pickRaw (k : EditKind) (s : State) : (joinItem k s).pickRaw = s.pickRaw := rfl
@[simp] theorem joinItem_pending (k : EditKind) (s : State) : (joinItem k s).pending = s.pending := rfl

@[simp] theorem setFlag_ports (c : Chan) (s : State) : (setFlag c s).ports = s.ports := rfl
@[simp] theorem setFlag_stc (c : Chan) (s : State) : (setFlag c s).stc = s.stc := rfl
@[simp] theorem setFlag_view (c : Chan) (s : State) : (setFlag c s).view = s.view := rfl
@[simp] theorem setFlag_grid (c : Chan) (s : State) : (setFlag c s).grid = s.grid := rfl
@[simp] theorem setFlag_picks (c : Chan) (s : State) : (setFlag c s).picks = s.picks := rfl
@[simp] theorem setFlag_overlay (c : Chan) (s : State) : (setFlag c s).overlay = s.overlay := rfl
@[simp] theorem setFlag_link (c : Chan) (s : State) : (setFlag c s).link = s.link := rfl
@[simp] theorem setFlag_rest (c : Chan) (s : State) : (setFlag c s).rest = s.rest := rfl
@[simp] theorem setFlag_pickRaw (c : Chan) (s : State) : (setFlag c s).pickRaw = s.pickRaw := rfl
@[simp] theorem setFlag_pending (c : Chan) (s : State) : (setFlag c s).pending = s.pending := rfl

@[simp] theorem beginSearch_ports (c : Chan) (b : SearchBasis) (s : State) : (beginSearch c b s).ports = s.ports := rfl
@[simp] theorem beginSearch_stc (c : Chan) (b : SearchBasis) (s : State) : (beginSearch c b s).stc = s.stc := rfl
@[simp] theorem beginSearch_view (c : Chan) (b : SearchBasis) (s : State) : (beginSearch c b s).view = s.view := rfl
@[simp] theorem beginSearch_grid (c : Chan) (b : SearchBasis) (s : State) : (beginSearch c b s).grid = s.grid := rfl
@[simp] theorem beginSearch_picks (c : Chan) (b : SearchBasis) (s : State) : (beginSearch c b s).picks = s.picks := rfl
@[simp] theorem beginSearch_overlay (c : Chan) (b : SearchBasis) (s : State) : (beginSearch c b s).overlay = s.overlay := rfl
@[simp] theorem beginSearch_link (c : Chan) (b : SearchBasis) (s : State) : (beginSearch c b s).link = s.link := rfl
@[simp] theorem beginSearch_rest (c : Chan) (b : SearchBasis) (s : State) : (beginSearch c b s).rest = s.rest := rfl
@[simp] theorem beginSearch_pickRaw (c : Chan) (b : SearchBasis) (s : State) : (beginSearch c b s).pickRaw = s.pickRaw := rfl
@[simp] theorem beginSearch_pending (c : Chan) (b : SearchBasis) (s : State) : (beginSearch c b s).pending = s.pending := rfl

@[simp] theorem releaseWaiting_ports (s : State) : (releaseWaiting s).ports = s.ports := rfl
@[simp] theorem releaseWaiting_stc (s : State) : (releaseWaiting s).stc = s.stc := rfl
@[simp] theorem releaseWaiting_view (s : State) : (releaseWaiting s).view = s.view := rfl
@[simp] theorem releaseWaiting_grid (s : State) : (releaseWaiting s).grid = s.grid := rfl
@[simp] theorem releaseWaiting_picks (s : State) : (releaseWaiting s).picks = s.picks := rfl
@[simp] theorem releaseWaiting_overlay (s : State) : (releaseWaiting s).overlay = s.overlay := rfl
@[simp] theorem releaseWaiting_link (s : State) : (releaseWaiting s).link = s.link := rfl
@[simp] theorem releaseWaiting_rest (s : State) : (releaseWaiting s).rest = s.rest := rfl
@[simp] theorem releaseWaiting_pickRaw (s : State) : (releaseWaiting s).pickRaw = s.pickRaw := rfl
@[simp] theorem releaseWaiting_pending (s : State) : (releaseWaiting s).pending = s.pending := rfl

@[simp] theorem swap_ports (s : State) : (swap s).ports = s.ports := rfl
@[simp] theorem swap_chans (s : State) : (swap s).chans = s.chans := rfl
@[simp] theorem swap_stc (s : State) : (swap s).stc = s.stc := rfl
@[simp] theorem swap_view (s : State) : (swap s).view = s.view := rfl
@[simp] theorem swap_grid (s : State) : (swap s).grid = s.grid := rfl
@[simp] theorem swap_picks (s : State) : (swap s).picks = s.picks := rfl
@[simp] theorem swap_link (s : State) : (swap s).link = s.link := rfl
@[simp] theorem swap_rest (s : State) : (swap s).rest = s.rest := rfl
@[simp] theorem swap_pickRaw (s : State) : (swap s).pickRaw = s.pickRaw := rfl
@[simp] theorem swap_pending (s : State) : (swap s).pending = s.pending := rfl

@[simp] theorem leaveTable_ports (s : State) : (leaveTable s).ports = s.ports := rfl
@[simp] theorem leaveTable_chans (s : State) : (leaveTable s).chans = s.chans := rfl
@[simp] theorem leaveTable_view (s : State) : (leaveTable s).view = s.view := rfl
@[simp] theorem leaveTable_grid (s : State) : (leaveTable s).grid = s.grid := rfl
@[simp] theorem leaveTable_picks (s : State) : (leaveTable s).picks = s.picks := rfl
@[simp] theorem leaveTable_overlay (s : State) : (leaveTable s).overlay = s.overlay := rfl
@[simp] theorem leaveTable_link (s : State) : (leaveTable s).link = s.link := rfl
@[simp] theorem leaveTable_rest (s : State) : (leaveTable s).rest = s.rest := rfl
@[simp] theorem leaveTable_pickRaw (s : State) : (leaveTable s).pickRaw = s.pickRaw := rfl
@[simp] theorem leaveTable_pending (s : State) : (leaveTable s).pending = s.pending := rfl

@[simp] theorem setAssembler_ports (a : Assembler) (s : State) : (setAssembler a s).ports = s.ports := rfl
@[simp] theorem setAssembler_chans (a : Assembler) (s : State) : (setAssembler a s).chans = s.chans := rfl
@[simp] theorem setAssembler_stc (a : Assembler) (s : State) : (setAssembler a s).stc = s.stc := rfl
@[simp] theorem setAssembler_view (a : Assembler) (s : State) : (setAssembler a s).view = s.view := rfl
@[simp] theorem setAssembler_grid (a : Assembler) (s : State) : (setAssembler a s).grid = s.grid := rfl
@[simp] theorem setAssembler_picks (a : Assembler) (s : State) : (setAssembler a s).picks = s.picks := rfl
@[simp] theorem setAssembler_overlay (a : Assembler) (s : State) : (setAssembler a s).overlay = s.overlay := rfl
@[simp] theorem setAssembler_rest (a : Assembler) (s : State) : (setAssembler a s).rest = s.rest := rfl
@[simp] theorem setAssembler_pickRaw (a : Assembler) (s : State) : (setAssembler a s).pickRaw = s.pickRaw := rfl
@[simp] theorem setAssembler_pending (a : Assembler) (s : State) : (setAssembler a s).pending = s.pending := rfl

/-! ## Reading a port or a channel after an update -/

@[simp] theorem PerPort.get_set_same {α : Type} (x : PerPort α) (p : PortId) (v : α) :
    (x.set p v).get p = v := by cases p <;> rfl

@[simp] theorem PerPort.get_set_other {α : Type} (x : PerPort α) (p r : PortId) (v : α) (h : r ≠ p) :
    (x.set p v).get r = x.get r := by cases p <;> cases r <;> first | rfl | exact absurd rfl h

@[simp] theorem PerChan.get_set_same {α : Type} (x : PerChan α) (c : Chan) (v : α) :
    (x.set c v).get c = v := by cases c <;> rfl

@[simp] theorem PerChan.get_set_other {α : Type} (x : PerChan α) (c d : Chan) (v : α) (h : d ≠ c) :
    (x.set c v).get d = x.get d := by cases c <;> cases d <;> first | rfl | exact absurd rfl h

@[simp] theorem port_setPort_same (s : State) (p : PortId) (v : PortState) :
    (s.setPort p v).port p = v := by cases p <;> rfl

@[simp] theorem port_setPort_other (s : State) (p r : PortId) (v : PortState) (h : r ≠ p) :
    (s.setPort p v).port r = s.port r := by cases p <;> cases r <;> first | rfl | exact absurd rfl h

@[simp] theorem port_updPort_same (s : State) (p : PortId) (f : PortState → PortState) :
    (s.updPort p f).port p = f (s.port p) := by cases p <;> rfl

@[simp] theorem port_updPort_other (s : State) (p r : PortId) (f : PortState → PortState) (h : r ≠ p) :
    (s.updPort p f).port r = s.port r := by cases p <;> cases r <;> first | rfl | exact absurd rfl h

@[simp] theorem chan_setChan_same (s : State) (c : Chan) (v : Channel) :
    (s.setChan c v).chan c = v := by cases c <;> rfl

@[simp] theorem chan_setChan_other (s : State) (c d : Chan) (v : Channel) (h : d ≠ c) :
    (s.setChan c v).chan d = s.chan d := by cases c <;> cases d <;> first | rfl | exact absurd rfl h

@[simp] theorem chan_updChan_same (s : State) (c : Chan) (f : Channel → Channel) :
    (s.updChan c f).chan c = f (s.chan c) := by cases c <;> rfl

@[simp] theorem chan_updChan_other (s : State) (c d : Chan) (f : Channel → Channel) (h : d ≠ c) :
    (s.updChan c f).chan d = s.chan d := by cases c <;> cases d <;> first | rfl | exact absurd rfl h

@[simp] theorem chan_updPort (s : State) (p : PortId) (f : PortState → PortState) (c : Chan) :
    (s.updPort p f).chan c = s.chan c := rfl

@[simp] theorem port_updChan (s : State) (c : Chan) (f : Channel → Channel) (p : PortId) :
    (s.updChan c f).port p = s.port p := rfl

@[simp] theorem chan_raise (e : Event) (s : State) (c : Chan) : (raise e s).chan c = s.chan c := rfl

@[simp] theorem port_raise (e : Event) (s : State) (p : PortId) :
    (raise e s).port p = { s.port p with latched := (s.port p).latched ||| e.toSet } := by
  cases p <;> rfl

/-- Two states with the same fields are one. -/
theorem State.eq_of_fields {s t : State} (ports : s.ports = t.ports) (chans : s.chans = t.chans)
    (stc : s.stc = t.stc) (view : s.view = t.view) (grid : s.grid = t.grid)
    (picks : s.picks = t.picks) (overlay : s.overlay = t.overlay) (link : s.link = t.link)
    (rest : s.rest = t.rest) (pickRaw : s.pickRaw = t.pickRaw) (pending : s.pending = t.pending) :
    s = t := by
  cases s; cases t; simp_all

/-- Both copies agree when the copies of each port do. -/
theorem perPort_eq {α : Type} {x y : PerPort α} (h : ∀ p, x.get p = y.get p) : x = y := by
  cases x; cases y
  have ha := h .a
  have hb := h .b
  simp_all [PerPort.get]

/-- Both copies agree when the copies of each channel do. -/
theorem perChan_eq {α : Type} {x y : PerChan α} (h : ∀ c, x.get c = y.get c) : x = y := by
  cases x; cases y
  have h0 := h .c0
  have h1 := h .c1
  simp_all [PerChan.get]

@[simp] theorem chan_followPicks (s : State) (c : Chan) : (followPicks s).chan c = s.chan c := rfl

@[simp] theorem port_followPicks (s : State) (p : PortId) :
    (followPicks s).port p =
      { s.port p with latched := withPickAvailable (!s.picks.records.isEmpty) (s.port p).latched } := by
  cases p <;> rfl

@[simp] theorem pickRaw_followPicks (s : State) :
    (followPicks s).pickRaw = !s.picks.records.isEmpty := rfl

@[simp] theorem chan_driveAttention (o s : State) (c : Chan) :
    (driveAttention o s).chan c = s.chan c := rfl

@[simp] theorem port_driveAttention (o s : State) (p : PortId) :
    (driveAttention o s).port p = { s.port p with attn := nextAttn (o.port p) (s.port p) } := by
  cases p <;> rfl

@[simp] theorem chan_complete (p : PortId) (o : ParamBlock) (f : FaultCode) (s : State) (c : Chan) :
    (complete p o f s).chan c = s.chan c := rfl

@[simp] theorem chan_accept (p : PortId) (s : State) (c : Chan) :
    (accept p s).chan c = s.chan c := rfl

@[simp] theorem chan_updCmd (p : PortId) (f : Progress → Progress) (s : State) (c : Chan) :
    (updCmd p f s).chan c = s.chan c := rfl

end Sys2Proof.Machine
end

