-- ==== Sys2Proof/Laws/Frames.lean ====
section
/-! SUPPORT. The frame of each operation: the fields of the state it never changes, in one lemma each. -/
set_option linter.unusedTactic false
set_option linter.unreachableTactic false

namespace Sys2Proof.Machine

@[simp] theorem raiseIf_frame (b : Bool) (e : Event) (s : State) :
    (raiseIf b e s).chans = s.chans ∧ (raiseIf b e s).stc = s.stc ∧
    (raiseIf b e s).view = s.view ∧ (raiseIf b e s).grid = s.grid ∧
    (raiseIf b e s).picks = s.picks ∧ (raiseIf b e s).overlay = s.overlay ∧
    (raiseIf b e s).link = s.link ∧ (raiseIf b e s).rest = s.rest ∧
    (raiseIf b e s).pickRaw = s.pickRaw ∧ (raiseIf b e s).pending = s.pending := by
  simp only [raiseIf]; and_intros <;> (repeat' split) <;> simp
@[simp] theorem raiseIf_chan (b : Bool) (e : Event) (s : State) (d : Chan) : (raiseIf b e s).chan d = s.chan d := by
  simp [State.chan]

@[simp] theorem openRecord_frame (p : PortId) (s : State) :
    (openRecord p s).chans = s.chans ∧ (openRecord p s).stc = s.stc ∧
    (openRecord p s).view = s.view ∧ (openRecord p s).grid = s.grid ∧
    (openRecord p s).picks = s.picks ∧ (openRecord p s).overlay = s.overlay ∧
    (openRecord p s).link = s.link ∧ (openRecord p s).rest = s.rest ∧
    (openRecord p s).pickRaw = s.pickRaw ∧ (openRecord p s).pending = s.pending := by
  simp only [openRecord]; and_intros <;> (repeat' split) <;> simp
@[simp] theorem openRecord_chan (p : PortId) (s : State) (d : Chan) : (openRecord p s).chan d = s.chan d := by
  simp [State.chan]

@[simp] theorem startDataIn_frame (p : PortId) (op : Command) (i : ParamBlock) (n : Nat) (s : State) :
    (startDataIn p op i n s).chans = s.chans ∧ (startDataIn p op i n s).stc = s.stc ∧
    (startDataIn p op i n s).view = s.view ∧ (startDataIn p op i n s).grid = s.grid ∧
    (startDataIn p op i n s).picks = s.picks ∧ (startDataIn p op i n s).overlay = s.overlay ∧
    (startDataIn p op i n s).link = s.link ∧ (startDataIn p op i n s).rest = s.rest ∧
    (startDataIn p op i n s).pickRaw = s.pickRaw ∧ (startDataIn p op i n s).pending = s.pending := by
  simp only [startDataIn]; and_intros <;> (repeat' split) <;> simp
@[simp] theorem startDataIn_chan (p : PortId) (op : Command) (i : ParamBlock) (n : Nat) (s : State) (d : Chan) : (startDataIn p op i n s).chan d = s.chan d := by
  simp [State.chan]

@[simp] theorem startDataOut_frame (p : PortId) (op : Command) (i : ParamBlock) (n : Nat) (w : List Word) (s : State) :
    (startDataOut p op i n w s).chans = s.chans ∧ (startDataOut p op i n w s).stc = s.stc ∧
    (startDataOut p op i n w s).view = s.view ∧ (startDataOut p op i n w s).grid = s.grid ∧
    (startDataOut p op i n w s).picks = s.picks ∧
    (startDataOut p op i n w s).overlay = s.overlay ∧ (startDataOut p op i n w s).link = s.link ∧
    (startDataOut p op i n w s).rest = s.rest ∧ (startDataOut p op i n w s).pickRaw = s.pickRaw ∧
    (startDataOut p op i n w s).pending = s.pending := by
  simp only [startDataOut]; and_intros <;> (repeat' split) <;> simp
@[simp] theorem startDataOut_chan (p : PortId) (op : Command) (i : ParamBlock) (n : Nat) (w : List Word) (s : State) (d : Chan) : (startDataOut p op i n w s).chan d = s.chan d := by
  simp [State.chan]

@[simp] theorem countRecord_frame (p : PortId) (s : State) :
    (countRecord p s).chans = s.chans ∧ (countRecord p s).stc = s.stc ∧
    (countRecord p s).view = s.view ∧ (countRecord p s).grid = s.grid ∧
    (countRecord p s).picks = s.picks ∧ (countRecord p s).overlay = s.overlay ∧
    (countRecord p s).link = s.link ∧ (countRecord p s).rest = s.rest ∧
    (countRecord p s).pickRaw = s.pickRaw ∧ (countRecord p s).pending = s.pending := by
  simp only [countRecord]; and_intros <;> (repeat' split) <;> simp
@[simp] theorem countRecord_chan (p : PortId) (s : State) (d : Chan) : (countRecord p s).chan d = s.chan d := by
  simp [State.chan]

@[simp] theorem finishTable_frame (s : State) :
    (finishTable s).chans = s.chans ∧ (finishTable s).stc = s.stc ∧
    (finishTable s).view = s.view ∧ (finishTable s).grid = s.grid ∧
    (finishTable s).picks = s.picks ∧ (finishTable s).overlay = s.overlay ∧
    (finishTable s).link = s.link ∧ (finishTable s).rest = s.rest ∧
    (finishTable s).pickRaw = s.pickRaw ∧ (finishTable s).pending = s.pending := by
  simp only [finishTable]; and_intros <;> (repeat' split) <;> simp
@[simp] theorem finishTable_chan (s : State) (d : Chan) : (finishTable s).chan d = s.chan d := by
  simp [State.chan]

@[simp] theorem endTablePhase_frame (f : FaultCode) (s : State) :
    (endTablePhase f s).chans = s.chans ∧ (endTablePhase f s).stc = s.stc ∧
    (endTablePhase f s).view = s.view ∧ (endTablePhase f s).grid = s.grid ∧
    (endTablePhase f s).picks = s.picks ∧ (endTablePhase f s).overlay = s.overlay ∧
    (endTablePhase f s).link = s.link ∧ (endTablePhase f s).rest = s.rest ∧
    (endTablePhase f s).pickRaw = s.pickRaw ∧ (endTablePhase f s).pending = s.pending := by
  simp only [endTablePhase]; and_intros <;> (repeat' split) <;> simp
@[simp] theorem endTablePhase_chan (f : FaultCode) (s : State) (d : Chan) : (endTablePhase f s).chan d = s.chan d := by
  simp [State.chan]

@[simp] theorem startSearch_frame (c : Chan) (s : State) :
    (startSearch c s).ports = s.ports ∧ (startSearch c s).view = s.view ∧
    (startSearch c s).grid = s.grid ∧ (startSearch c s).picks = s.picks ∧
    (startSearch c s).overlay = s.overlay ∧ (startSearch c s).link = s.link ∧
    (startSearch c s).rest = s.rest ∧ (startSearch c s).pickRaw = s.pickRaw ∧
    (startSearch c s).pending = s.pending := by
  simp only [startSearch]; and_intros <;> (repeat' split) <;> simp
@[simp] theorem startSearch_port (c : Chan) (s : State) (q : PortId) : (startSearch c s).port q = s.port q := by
  simp [State.port]

@[simp] theorem joinWaitingClear_frame (s : State) :
    (joinWaitingClear s).chans = s.chans ∧ (joinWaitingClear s).view = s.view ∧
    (joinWaitingClear s).grid = s.grid ∧ (joinWaitingClear s).picks = s.picks ∧
    (joinWaitingClear s).overlay = s.overlay ∧ (joinWaitingClear s).link = s.link ∧
    (joinWaitingClear s).rest = s.rest ∧ (joinWaitingClear s).pickRaw = s.pickRaw ∧
    (joinWaitingClear s).pending = s.pending := by
  simp only [joinWaitingClear]; and_intros <;> (repeat' split) <;> simp
@[simp] theorem joinWaitingClear_chan (s : State) (d : Chan) : (joinWaitingClear s).chan d = s.chan d := by
  simp [State.chan]

@[simp] theorem openWithheld_frame (s : State) :
    (openWithheld s).chans = s.chans ∧ (openWithheld s).stc = s.stc ∧
    (openWithheld s).view = s.view ∧ (openWithheld s).grid = s.grid ∧
    (openWithheld s).picks = s.picks ∧ (openWithheld s).overlay = s.overlay ∧
    (openWithheld s).link = s.link ∧ (openWithheld s).rest = s.rest ∧
    (openWithheld s).pickRaw = s.pickRaw ∧ (openWithheld s).pending = s.pending := by
  simp only [openWithheld]; and_intros <;> (repeat' split) <;> simp
@[simp] theorem openWithheld_chan (s : State) (d : Chan) : (openWithheld s).chan d = s.chan d := by
  simp [State.chan]

@[simp] theorem startBatch_frame (s : State) :
    (startBatch s).chans = s.chans ∧ (startBatch s).view = s.view ∧ (startBatch s).grid = s.grid ∧
    (startBatch s).picks = s.picks ∧ (startBatch s).overlay = s.overlay ∧
    (startBatch s).link = s.link ∧ (startBatch s).rest = s.rest ∧
    (startBatch s).pickRaw = s.pickRaw ∧ (startBatch s).pending = s.pending := by
  simp only [startBatch]; and_intros <;> (repeat' split) <;> simp
@[simp] theorem startBatch_chan (s : State) (d : Chan) : (startBatch s).chan d = s.chan d := by
  simp [State.chan]

@[simp] theorem settle_frame (s : State) :
    (settle s).view = s.view ∧ (settle s).grid = s.grid ∧ (settle s).picks = s.picks ∧
    (settle s).overlay = s.overlay ∧ (settle s).link = s.link ∧ (settle s).rest = s.rest ∧
    (settle s).pickRaw = s.pickRaw ∧ (settle s).pending = s.pending := by
  simp only [settle]; and_intros <;> (repeat' split) <;> simp

@[simp] theorem recordStands_frame (s : State) :
    (recordStands s).chans = s.chans ∧ (recordStands s).stc = s.stc ∧
    (recordStands s).view = s.view ∧ (recordStands s).grid = s.grid ∧
    (recordStands s).picks = s.picks ∧ (recordStands s).overlay = s.overlay ∧
    (recordStands s).link = s.link ∧ (recordStands s).rest = s.rest ∧
    (recordStands s).pickRaw = s.pickRaw ∧ (recordStands s).pending = s.pending := by
  simp only [recordStands]; and_intros <;> (repeat' split) <;> simp
@[simp] theorem recordStands_chan (s : State) (d : Chan) : (recordStands s).chan d = s.chan d := by
  simp [State.chan]

@[simp] theorem reserveSlot_frame (s : State) :
    (reserveSlot s).ports = s.ports ∧ (reserveSlot s).chans = s.chans ∧
    (reserveSlot s).view = s.view ∧ (reserveSlot s).grid = s.grid ∧
    (reserveSlot s).picks = s.picks ∧ (reserveSlot s).overlay = s.overlay ∧
    (reserveSlot s).link = s.link ∧ (reserveSlot s).rest = s.rest ∧
    (reserveSlot s).pickRaw = s.pickRaw ∧ (reserveSlot s).pending = s.pending := by
  simp only [reserveSlot]; and_intros <;> (repeat' split) <;> simp
@[simp] theorem reserveSlot_chan (s : State) (d : Chan) : (reserveSlot s).chan d = s.chan d := by
  simp [State.chan]
@[simp] theorem reserveSlot_port (s : State) (q : PortId) : (reserveSlot s).port q = s.port q := by
  simp [State.port]

@[simp] theorem takeEntry_frame (w : List Word) (s : State) :
    (takeEntry w s).chans = s.chans ∧ (takeEntry w s).view = s.view ∧
    (takeEntry w s).grid = s.grid ∧ (takeEntry w s).picks = s.picks ∧
    (takeEntry w s).overlay = s.overlay ∧ (takeEntry w s).link = s.link ∧
    (takeEntry w s).rest = s.rest ∧ (takeEntry w s).pickRaw = s.pickRaw ∧
    (takeEntry w s).pending = s.pending := by
  simp only [takeEntry]; and_intros <;> (repeat' split) <;> simp
@[simp] theorem takeEntry_chan (w : List Word) (s : State) (d : Chan) : (takeEntry w s).chan d = s.chan d := by
  simp [State.chan]

@[simp] theorem takeRemoval_frame (w : List Word) (s : State) :
    (takeRemoval w s).chans = s.chans ∧ (takeRemoval w s).view = s.view ∧
    (takeRemoval w s).grid = s.grid ∧ (takeRemoval w s).picks = s.picks ∧
    (takeRemoval w s).overlay = s.overlay ∧ (takeRemoval w s).link = s.link ∧
    (takeRemoval w s).rest = s.rest ∧ (takeRemoval w s).pickRaw = s.pickRaw ∧
    (takeRemoval w s).pending = s.pending := by
  simp only [takeRemoval]; and_intros <;> (repeat' split) <;> simp
@[simp] theorem takeRemoval_chan (w : List Word) (s : State) (d : Chan) : (takeRemoval w s).chan d = s.chan d := by
  simp [State.chan]

@[simp] theorem takeWindow_frame (i : ParamBlock) (w : List Word) (s : State) :
    (takeWindow i w s).chans = s.chans ∧ (takeWindow i w s).view = s.view ∧
    (takeWindow i w s).grid = s.grid ∧ (takeWindow i w s).picks = s.picks ∧
    (takeWindow i w s).overlay = s.overlay ∧ (takeWindow i w s).link = s.link ∧
    (takeWindow i w s).rest = s.rest ∧ (takeWindow i w s).pickRaw = s.pickRaw ∧
    (takeWindow i w s).pending = s.pending := by
  simp only [takeWindow]; and_intros <;> (repeat' split) <;> simp
@[simp] theorem takeWindow_chan (i : ParamBlock) (w : List Word) (s : State) (d : Chan) : (takeWindow i w s).chan d = s.chan d := by
  simp [State.chan]

@[simp] theorem dropHit_frame (c : Chan) (s : State) :
    (dropHit c s).stc = s.stc ∧ (dropHit c s).view = s.view ∧ (dropHit c s).grid = s.grid ∧
    (dropHit c s).picks = s.picks ∧ (dropHit c s).overlay = s.overlay ∧
    (dropHit c s).link = s.link ∧ (dropHit c s).rest = s.rest ∧
    (dropHit c s).pickRaw = s.pickRaw ∧ (dropHit c s).pending = s.pending := by
  simp only [dropHit]; and_intros <;> (repeat' split) <;> simp

@[simp] theorem flagBatch_frame (c : Chan) (b : List EditItem) (s : State) :
    (flagBatch c b s).ports = s.ports ∧ (flagBatch c b s).stc = s.stc ∧
    (flagBatch c b s).view = s.view ∧ (flagBatch c b s).grid = s.grid ∧
    (flagBatch c b s).picks = s.picks ∧ (flagBatch c b s).overlay = s.overlay ∧
    (flagBatch c b s).link = s.link ∧ (flagBatch c b s).rest = s.rest ∧
    (flagBatch c b s).pickRaw = s.pickRaw ∧ (flagBatch c b s).pending = s.pending := by
  simp only [flagBatch]; and_intros <;> (repeat' split) <;> simp
@[simp] theorem flagBatch_port (c : Chan) (b : List EditItem) (s : State) (q : PortId) : (flagBatch c b s).port q = s.port q := by
  simp [State.port]

@[simp] theorem credit_frame (n : TableCounts) (s : State) :
    (credit n s).chans = s.chans ∧ (credit n s).stc = s.stc ∧ (credit n s).view = s.view ∧
    (credit n s).grid = s.grid ∧ (credit n s).picks = s.picks ∧ (credit n s).overlay = s.overlay ∧
    (credit n s).link = s.link ∧ (credit n s).rest = s.rest ∧ (credit n s).pickRaw = s.pickRaw ∧
    (credit n s).pending = s.pending := by
  simp only [credit]; and_intros <;> (repeat' split) <;> simp
@[simp] theorem credit_chan (n : TableCounts) (s : State) (d : Chan) : (credit n s).chan d = s.chan d := by
  simp [State.chan]

@[simp] theorem storeBatch_frame (b : BatchWork) (s : State) :
    (storeBatch b s).ports = s.ports ∧ (storeBatch b s).chans = s.chans ∧
    (storeBatch b s).view = s.view ∧ (storeBatch b s).grid = s.grid ∧
    (storeBatch b s).picks = s.picks ∧ (storeBatch b s).overlay = s.overlay ∧
    (storeBatch b s).link = s.link ∧ (storeBatch b s).rest = s.rest ∧
    (storeBatch b s).pickRaw = s.pickRaw ∧ (storeBatch b s).pending = s.pending := by
  simp only [storeBatch]; and_intros <;> (repeat' split) <;> simp
@[simp] theorem storeBatch_chan (b : BatchWork) (s : State) (d : Chan) : (storeBatch b s).chan d = s.chan d := by
  simp [State.chan]
@[simp] theorem storeBatch_port (b : BatchWork) (s : State) (q : PortId) : (storeBatch b s).port q = s.port q := by
  simp [State.port]

@[simp] theorem passTurn_frame (s : State) :
    (passTurn s).ports = s.ports ∧ (passTurn s).view = s.view ∧ (passTurn s).grid = s.grid ∧
    (passTurn s).picks = s.picks ∧ (passTurn s).overlay = s.overlay ∧ (passTurn s).link = s.link ∧
    (passTurn s).rest = s.rest ∧ (passTurn s).pickRaw = s.pickRaw ∧
    (passTurn s).pending = s.pending := by
  simp only [passTurn]; and_intros <;> (repeat' split) <;> simp
@[simp] theorem passTurn_port (s : State) (q : PortId) : (passTurn s).port q = s.port q := by
  simp [State.port]

@[simp] theorem completeBatch_frame (s : State) :
    (completeBatch s).view = s.view ∧ (completeBatch s).grid = s.grid ∧
    (completeBatch s).picks = s.picks ∧ (completeBatch s).overlay = s.overlay ∧
    (completeBatch s).link = s.link ∧ (completeBatch s).rest = s.rest ∧
    (completeBatch s).pickRaw = s.pickRaw ∧ (completeBatch s).pending = s.pending := by
  simp only [completeBatch]; and_intros <;> (repeat' split) <;> simp

@[simp] theorem acceptClear_frame (p : PortId) (i : ParamBlock) (s : State) :
    (acceptClear p i s).chans = s.chans ∧ (acceptClear p i s).view = s.view ∧
    (acceptClear p i s).grid = s.grid ∧ (acceptClear p i s).picks = s.picks ∧
    (acceptClear p i s).overlay = s.overlay ∧ (acceptClear p i s).link = s.link ∧
    (acceptClear p i s).rest = s.rest ∧ (acceptClear p i s).pickRaw = s.pickRaw ∧
    (acceptClear p i s).pending = s.pending := by
  simp only [acceptClear]; and_intros <;> (repeat' split) <;> simp
@[simp] theorem acceptClear_chan (p : PortId) (i : ParamBlock) (s : State) (d : Chan) : (acceptClear p i s).chan d = s.chan d := by
  simp [State.chan]

@[simp] theorem endStartUp_frame (s : State) :
    (endStartUp s).view = s.view ∧ (endStartUp s).grid = s.grid ∧ (endStartUp s).picks = s.picks ∧
    (endStartUp s).overlay = s.overlay ∧ (endStartUp s).link = s.link ∧
    (endStartUp s).rest = s.rest ∧ (endStartUp s).pickRaw = s.pickRaw ∧
    (endStartUp s).pending = s.pending := by
  simp only [endStartUp]; and_intros <;> (repeat' split) <;> simp

@[simp] theorem viewChannel_frame (c : Chan) (s : State) :
    (viewChannel c s).ports = s.ports ∧ (viewChannel c s).stc = s.stc ∧
    (viewChannel c s).view = s.view ∧ (viewChannel c s).grid = s.grid ∧
    (viewChannel c s).picks = s.picks ∧ (viewChannel c s).overlay = s.overlay ∧
    (viewChannel c s).link = s.link ∧ (viewChannel c s).rest = s.rest ∧
    (viewChannel c s).pickRaw = s.pickRaw ∧ (viewChannel c s).pending = s.pending := by
  simp only [viewChannel]; and_intros <;> (repeat' split) <;> simp
@[simp] theorem viewChannel_port (c : Chan) (s : State) (q : PortId) : (viewChannel c s).port q = s.port q := by
  simp [State.port]

@[simp] theorem acceptView_frame (v : Coord × Coord × Word × BitVec 4) (s : State) :
    (acceptView v s).stc = s.stc ∧ (acceptView v s).grid = s.grid ∧
    (acceptView v s).picks = s.picks ∧ (acceptView v s).overlay = s.overlay ∧
    (acceptView v s).link = s.link ∧ (acceptView v s).rest = s.rest ∧
    (acceptView v s).pickRaw = s.pickRaw ∧ (acceptView v s).pending = s.pending := by
  simp only [acceptView]; and_intros <;> (repeat' split) <;> simp

@[simp] theorem takeView_frame (p : PortId) (w : List Word) (s : State) :
    (takeView p w s).stc = s.stc ∧ (takeView p w s).grid = s.grid ∧
    (takeView p w s).picks = s.picks ∧ (takeView p w s).overlay = s.overlay ∧
    (takeView p w s).link = s.link ∧ (takeView p w s).rest = s.rest ∧
    (takeView p w s).pickRaw = s.pickRaw ∧ (takeView p w s).pending = s.pending := by
  simp only [takeView]; and_intros <;> (repeat' split) <;> simp

@[simp] theorem acceptGrid_frame (g : Grid) (s : State) :
    (acceptGrid g s).ports = s.ports ∧ (acceptGrid g s).stc = s.stc ∧
    (acceptGrid g s).view = s.view ∧ (acceptGrid g s).picks = s.picks ∧
    (acceptGrid g s).overlay = s.overlay ∧ (acceptGrid g s).link = s.link ∧
    (acceptGrid g s).rest = s.rest ∧ (acceptGrid g s).pickRaw = s.pickRaw ∧
    (acceptGrid g s).pending = s.pending := by
  simp only [acceptGrid]; and_intros <;> (repeat' split) <;> simp
@[simp] theorem acceptGrid_port (g : Grid) (s : State) (q : PortId) : (acceptGrid g s).port q = s.port q := by
  simp [State.port]

@[simp] theorem takeGrid_frame (p : PortId) (w : List Word) (s : State) :
    (takeGrid p w s).stc = s.stc ∧ (takeGrid p w s).view = s.view ∧
    (takeGrid p w s).picks = s.picks ∧ (takeGrid p w s).overlay = s.overlay ∧
    (takeGrid p w s).link = s.link ∧ (takeGrid p w s).rest = s.rest ∧
    (takeGrid p w s).pickRaw = s.pickRaw ∧ (takeGrid p w s).pending = s.pending := by
  simp only [takeGrid]; and_intros <;> (repeat' split) <;> simp

@[simp] theorem offerPick_frame (r : PickRecord) (s : State) :
    (offerPick r s).chans = s.chans ∧ (offerPick r s).stc = s.stc ∧
    (offerPick r s).view = s.view ∧ (offerPick r s).grid = s.grid ∧
    (offerPick r s).overlay = s.overlay ∧ (offerPick r s).link = s.link ∧
    (offerPick r s).rest = s.rest ∧ (offerPick r s).pending = s.pending := by
  simp only [offerPick]; and_intros <;> (repeat' split) <;> simp
@[simp] theorem offerPick_chan (r : PickRecord) (s : State) (d : Chan) : (offerPick r s).chan d = s.chan d := by
  simp [State.chan]

@[simp] theorem removePick_frame (s : State) :
    (removePick s).chans = s.chans ∧ (removePick s).stc = s.stc ∧ (removePick s).view = s.view ∧
    (removePick s).grid = s.grid ∧ (removePick s).overlay = s.overlay ∧
    (removePick s).link = s.link ∧ (removePick s).rest = s.rest ∧
    (removePick s).pending = s.pending := by
  simp only [removePick]; and_intros <;> (repeat' split) <;> simp
@[simp] theorem removePick_chan (s : State) (d : Chan) : (removePick s).chan d = s.chan d := by
  simp [State.chan]

@[simp] theorem acceptReadPicks_frame (p : PortId) (i : ParamBlock) (s : State) :
    (acceptReadPicks p i s).chans = s.chans ∧ (acceptReadPicks p i s).stc = s.stc ∧
    (acceptReadPicks p i s).view = s.view ∧ (acceptReadPicks p i s).grid = s.grid ∧
    (acceptReadPicks p i s).picks = s.picks ∧ (acceptReadPicks p i s).overlay = s.overlay ∧
    (acceptReadPicks p i s).link = s.link ∧ (acceptReadPicks p i s).rest = s.rest ∧
    (acceptReadPicks p i s).pickRaw = s.pickRaw ∧ (acceptReadPicks p i s).pending = s.pending := by
  simp only [acceptReadPicks]; and_intros <;> (repeat' split) <;> simp
@[simp] theorem acceptReadPicks_chan (p : PortId) (i : ParamBlock) (s : State) (d : Chan) : (acceptReadPicks p i s).chan d = s.chan d := by
  simp [State.chan]

@[simp] theorem acceptFlush_frame (p : PortId) (s : State) :
    (acceptFlush p s).chans = s.chans ∧ (acceptFlush p s).stc = s.stc ∧
    (acceptFlush p s).view = s.view ∧ (acceptFlush p s).grid = s.grid ∧
    (acceptFlush p s).overlay = s.overlay ∧ (acceptFlush p s).link = s.link ∧
    (acceptFlush p s).rest = s.rest ∧ (acceptFlush p s).pending = s.pending := by
  simp only [acceptFlush]; and_intros <;> (repeat' split) <;> simp
@[simp] theorem acceptFlush_chan (p : PortId) (s : State) (d : Chan) : (acceptFlush p s).chan d = s.chan d := by
  simp [State.chan]

@[simp] theorem acceptThreshold_frame (p : PortId) (i : ParamBlock) (s : State) :
    (acceptThreshold p i s).chans = s.chans ∧ (acceptThreshold p i s).stc = s.stc ∧
    (acceptThreshold p i s).view = s.view ∧ (acceptThreshold p i s).grid = s.grid ∧
    (acceptThreshold p i s).overlay = s.overlay ∧ (acceptThreshold p i s).link = s.link ∧
    (acceptThreshold p i s).rest = s.rest ∧ (acceptThreshold p i s).pickRaw = s.pickRaw ∧
    (acceptThreshold p i s).pending = s.pending := by
  simp only [acceptThreshold]; and_intros <;> (repeat' split) <;> simp
@[simp] theorem acceptThreshold_chan (p : PortId) (i : ParamBlock) (s : State) (d : Chan) : (acceptThreshold p i s).chan d = s.chan d := by
  simp [State.chan]

@[simp] theorem setStage_frame (c : Chan) (st : Stage) (s : State) :
    (setStage c st s).stc = s.stc ∧ (setStage c st s).view = s.view ∧
    (setStage c st s).grid = s.grid ∧ (setStage c st s).picks = s.picks ∧
    (setStage c st s).overlay = s.overlay ∧ (setStage c st s).link = s.link ∧
    (setStage c st s).rest = s.rest ∧ (setStage c st s).pickRaw = s.pickRaw ∧
    (setStage c st s).pending = s.pending := by
  simp only [setStage]; and_intros <;> (repeat' split) <;> simp

@[simp] theorem clearAnchors_frame (c : Chan) (s : State) :
    (clearAnchors c s).ports = s.ports ∧ (clearAnchors c s).stc = s.stc ∧
    (clearAnchors c s).view = s.view ∧ (clearAnchors c s).grid = s.grid ∧
    (clearAnchors c s).picks = s.picks ∧ (clearAnchors c s).overlay = s.overlay ∧
    (clearAnchors c s).link = s.link ∧ (clearAnchors c s).rest = s.rest ∧
    (clearAnchors c s).pickRaw = s.pickRaw ∧ (clearAnchors c s).pending = s.pending := by
  simp only [clearAnchors]; and_intros <;> (repeat' split) <;> simp
@[simp] theorem clearAnchors_port (c : Chan) (s : State) (q : PortId) : (clearAnchors c s).port q = s.port q := by
  simp [State.port]

@[simp] theorem addAnchor_frame (c : Chan) (s : State) :
    (addAnchor c s).ports = s.ports ∧ (addAnchor c s).stc = s.stc ∧
    (addAnchor c s).view = s.view ∧ (addAnchor c s).grid = s.grid ∧
    (addAnchor c s).picks = s.picks ∧ (addAnchor c s).overlay = s.overlay ∧
    (addAnchor c s).link = s.link ∧ (addAnchor c s).rest = s.rest ∧
    (addAnchor c s).pickRaw = s.pickRaw ∧ (addAnchor c s).pending = s.pending := by
  simp only [addAnchor]; and_intros <;> (repeat' split) <;> simp
@[simp] theorem addAnchor_port (c : Chan) (s : State) (q : PortId) : (addAnchor c s).port q = s.port q := by
  simp [State.port]

@[simp] theorem dropTemplate_frame (c : Chan) (s : State) :
    (dropTemplate c s).ports = s.ports ∧ (dropTemplate c s).stc = s.stc ∧
    (dropTemplate c s).view = s.view ∧ (dropTemplate c s).grid = s.grid ∧
    (dropTemplate c s).picks = s.picks ∧ (dropTemplate c s).overlay = s.overlay ∧
    (dropTemplate c s).link = s.link ∧ (dropTemplate c s).rest = s.rest ∧
    (dropTemplate c s).pickRaw = s.pickRaw ∧ (dropTemplate c s).pending = s.pending := by
  simp only [dropTemplate]; and_intros <;> (repeat' split) <;> simp
@[simp] theorem dropTemplate_port (c : Chan) (s : State) (q : PortId) : (dropTemplate c s).port q = s.port q := by
  simp [State.port]

@[simp] theorem applyAction_frame (c : Chan) (s : State) :
    (applyAction c s).stc = s.stc ∧ (applyAction c s).view = s.view ∧
    (applyAction c s).grid = s.grid ∧ (applyAction c s).picks = s.picks ∧
    (applyAction c s).overlay = s.overlay ∧ (applyAction c s).link = s.link ∧
    (applyAction c s).rest = s.rest ∧ (applyAction c s).pickRaw = s.pickRaw ∧
    (applyAction c s).pending = s.pending := by
  simp only [applyAction]; and_intros <;> (repeat' split) <;> simp

@[simp] theorem discardPress_frame (c : Chan) (s : State) :
    (discardPress c s).chans = s.chans ∧ (discardPress c s).stc = s.stc ∧
    (discardPress c s).view = s.view ∧ (discardPress c s).grid = s.grid ∧
    (discardPress c s).picks = s.picks ∧ (discardPress c s).overlay = s.overlay ∧
    (discardPress c s).link = s.link ∧ (discardPress c s).rest = s.rest ∧
    (discardPress c s).pickRaw = s.pickRaw ∧ (discardPress c s).pending = s.pending := by
  simp only [discardPress]; and_intros <;> (repeat' split) <;> simp
@[simp] theorem discardPress_chan (c : Chan) (s : State) (d : Chan) : (discardPress c s).chan d = s.chan d := by
  simp [State.chan]

@[simp] theorem sequenceError_frame (c : Chan) (r : ReturnStage) (s : State) :
    (sequenceError c r s).stc = s.stc ∧ (sequenceError c r s).view = s.view ∧
    (sequenceError c r s).grid = s.grid ∧ (sequenceError c r s).picks = s.picks ∧
    (sequenceError c r s).overlay = s.overlay ∧ (sequenceError c r s).link = s.link ∧
    (sequenceError c r s).rest = s.rest ∧ (sequenceError c r s).pickRaw = s.pickRaw ∧
    (sequenceError c r s).pending = s.pending := by
  simp only [sequenceError]; and_intros <;> (repeat' split) <;> simp

@[simp] theorem savePress_frame (c : Chan) (k : Press) (s : State) :
    (savePress c k s).stc = s.stc ∧ (savePress c k s).view = s.view ∧
    (savePress c k s).grid = s.grid ∧ (savePress c k s).picks = s.picks ∧
    (savePress c k s).overlay = s.overlay ∧ (savePress c k s).link = s.link ∧
    (savePress c k s).rest = s.rest ∧ (savePress c k s).pickRaw = s.pickRaw ∧
    (savePress c k s).pending = s.pending := by
  simp only [savePress]; and_intros <;> (repeat' split) <;> simp

@[simp] theorem recordAccepted_frame (c : Chan) (k : RecordKind) (s : State) :
    (recordAccepted c k s).stc = s.stc ∧ (recordAccepted c k s).view = s.view ∧
    (recordAccepted c k s).grid = s.grid ∧ (recordAccepted c k s).picks = s.picks ∧
    (recordAccepted c k s).overlay = s.overlay ∧ (recordAccepted c k s).link = s.link ∧
    (recordAccepted c k s).rest = s.rest ∧ (recordAccepted c k s).pickRaw = s.pickRaw ∧
    (recordAccepted c k s).pending = s.pending := by
  simp only [recordAccepted]; and_intros <;> (repeat' split) <;> simp

@[simp] theorem recordRefused_frame (c : Chan) (k : RecordKind) (s : State) :
    (recordRefused c k s).stc = s.stc ∧ (recordRefused c k s).view = s.view ∧
    (recordRefused c k s).grid = s.grid ∧ (recordRefused c k s).picks = s.picks ∧
    (recordRefused c k s).overlay = s.overlay ∧ (recordRefused c k s).link = s.link ∧
    (recordRefused c k s).rest = s.rest ∧ (recordRefused c k s).pickRaw = s.pickRaw ∧
    (recordRefused c k s).pending = s.pending := by
  simp only [recordRefused]; and_intros <;> (repeat' split) <;> simp

@[simp] theorem offerRecord_frame (c : Chan) (k : RecordKind) (n : Nat) (s : State) :
    (offerRecord c k n s).stc = s.stc ∧ (offerRecord c k n s).view = s.view ∧
    (offerRecord c k n s).grid = s.grid ∧ (offerRecord c k n s).overlay = s.overlay ∧
    (offerRecord c k n s).link = s.link ∧ (offerRecord c k n s).rest = s.rest ∧
    (offerRecord c k n s).pending = s.pending := by
  simp only [offerRecord]; and_intros <;> (repeat' split) <;> simp

@[simp] theorem pressWithoutRecord_frame (c : Chan) (k : Press) (s : State) :
    (pressWithoutRecord c k s).stc = s.stc ∧ (pressWithoutRecord c k s).view = s.view ∧
    (pressWithoutRecord c k s).grid = s.grid ∧ (pressWithoutRecord c k s).picks = s.picks ∧
    (pressWithoutRecord c k s).overlay = s.overlay ∧ (pressWithoutRecord c k s).link = s.link ∧
    (pressWithoutRecord c k s).rest = s.rest ∧ (pressWithoutRecord c k s).pickRaw = s.pickRaw ∧
    (pressWithoutRecord c k s).pending = s.pending := by
  simp only [pressWithoutRecord]; and_intros <;> (repeat' split) <;> simp

@[simp] theorem handlePress_frame (c : Chan) (k : Press) (s : State) :
    (handlePress c k s).stc = s.stc ∧ (handlePress c k s).view = s.view ∧
    (handlePress c k s).grid = s.grid ∧ (handlePress c k s).overlay = s.overlay ∧
    (handlePress c k s).link = s.link ∧ (handlePress c k s).rest = s.rest ∧
    (handlePress c k s).pending = s.pending := by
  simp only [handlePress]; and_intros <;> (repeat' split) <;> simp

@[simp] theorem handlePresses_frame (c : Chan) (l : List Press) (s : State) :
    (handlePresses c l s).stc = s.stc ∧ (handlePresses c l s).view = s.view ∧
    (handlePresses c l s).grid = s.grid ∧ (handlePresses c l s).overlay = s.overlay ∧
    (handlePresses c l s).link = s.link ∧ (handlePresses c l s).rest = s.rest ∧
    (handlePresses c l s).pending = s.pending := by
  induction l generalizing s with
  | nil => simp [handlePresses]
  | cons k l ih => simp [handlePresses, ih]

@[simp] theorem armTemplate_frame (c : Chan) (t : Template) (i : ParamBlock) (s : State) :
    (armTemplate c t i s).stc = s.stc ∧ (armTemplate c t i s).view = s.view ∧
    (armTemplate c t i s).grid = s.grid ∧ (armTemplate c t i s).picks = s.picks ∧
    (armTemplate c t i s).overlay = s.overlay ∧ (armTemplate c t i s).link = s.link ∧
    (armTemplate c t i s).rest = s.rest ∧ (armTemplate c t i s).pickRaw = s.pickRaw ∧
    (armTemplate c t i s).pending = s.pending := by
  simp only [armTemplate]; and_intros <;> (repeat' split) <;> simp

@[simp] theorem acceptArm_frame (p : PortId) (i : ParamBlock) (c : Chan) (s : State) :
    (acceptArm p i c s).stc = s.stc ∧ (acceptArm p i c s).view = s.view ∧
    (acceptArm p i c s).grid = s.grid ∧ (acceptArm p i c s).picks = s.picks ∧
    (acceptArm p i c s).overlay = s.overlay ∧ (acceptArm p i c s).link = s.link ∧
    (acceptArm p i c s).rest = s.rest ∧ (acceptArm p i c s).pickRaw = s.pickRaw ∧
    (acceptArm p i c s).pending = s.pending := by
  simp only [acceptArm]; and_intros <;> (repeat' split) <;> simp

@[simp] theorem acceptCancel_frame (p : PortId) (c : Chan) (s : State) :
    (acceptCancel p c s).stc = s.stc ∧ (acceptCancel p c s).view = s.view ∧
    (acceptCancel p c s).grid = s.grid ∧ (acceptCancel p c s).overlay = s.overlay ∧
    (acceptCancel p c s).link = s.link ∧ (acceptCancel p c s).rest = s.rest ∧
    (acceptCancel p c s).pending = s.pending := by
  simp only [acceptCancel]; and_intros <;> (repeat' split) <;> simp

@[simp] theorem releaseHeld_frame (c : Chan) (b : Bool) (s : State) :
    (releaseHeld c b s).stc = s.stc ∧ (releaseHeld c b s).view = s.view ∧
    (releaseHeld c b s).grid = s.grid ∧ (releaseHeld c b s).picks = s.picks ∧
    (releaseHeld c b s).overlay = s.overlay ∧ (releaseHeld c b s).link = s.link ∧
    (releaseHeld c b s).rest = s.rest ∧ (releaseHeld c b s).pickRaw = s.pickRaw ∧
    (releaseHeld c b s).pending = s.pending := by
  simp only [releaseHeld]; and_intros <;> (repeat' split) <;> simp

@[simp] theorem acceptRelease_frame (p : PortId) (i : ParamBlock) (c : Chan) (s : State) :
    (acceptRelease p i c s).stc = s.stc ∧ (acceptRelease p i c s).view = s.view ∧
    (acceptRelease p i c s).grid = s.grid ∧ (acceptRelease p i c s).picks = s.picks ∧
    (acceptRelease p i c s).overlay = s.overlay ∧ (acceptRelease p i c s).link = s.link ∧
    (acceptRelease p i c s).rest = s.rest ∧ (acceptRelease p i c s).pickRaw = s.pickRaw ∧
    (acceptRelease p i c s).pending = s.pending := by
  simp only [acceptRelease]; and_intros <;> (repeat' split) <;> simp

@[simp] theorem endStall_frame (c : Chan) (r : ReturnStage) (s : State) :
    (endStall c r s).stc = s.stc ∧ (endStall c r s).view = s.view ∧
    (endStall c r s).grid = s.grid ∧ (endStall c r s).picks = s.picks ∧
    (endStall c r s).overlay = s.overlay ∧ (endStall c r s).link = s.link ∧
    (endStall c r s).rest = s.rest ∧ (endStall c r s).pickRaw = s.pickRaw ∧
    (endStall c r s).pending = s.pending := by
  simp only [endStall]; and_intros <;> (repeat' split) <;> simp

@[simp] theorem replay_frame (c : Chan) (k : Option Press) (s : State) :
    (replay c k s).stc = s.stc ∧ (replay c k s).view = s.view ∧ (replay c k s).grid = s.grid ∧
    (replay c k s).overlay = s.overlay ∧ (replay c k s).link = s.link ∧
    (replay c k s).rest = s.rest ∧ (replay c k s).pending = s.pending := by
  simp only [replay]; and_intros <;> (repeat' split) <;> simp

@[simp] theorem acceptClearStall_frame (p : PortId) (c : Chan) (s : State) :
    (acceptClearStall p c s).stc = s.stc ∧ (acceptClearStall p c s).view = s.view ∧
    (acceptClearStall p c s).grid = s.grid ∧ (acceptClearStall p c s).overlay = s.overlay ∧
    (acceptClearStall p c s).link = s.link ∧ (acceptClearStall p c s).rest = s.rest ∧
    (acceptClearStall p c s).pending = s.pending := by
  simp only [acceptClearStall]; and_intros <;> (repeat' split) <;> simp

@[simp] theorem writeResult_frame (c : Chan) (b : SearchBasis) (i : Inputs) (r : SearchResult) (s : State) :
    (writeResult c b i r s).stc = s.stc ∧ (writeResult c b i r s).view = s.view ∧
    (writeResult c b i r s).grid = s.grid ∧ (writeResult c b i r s).picks = s.picks ∧
    (writeResult c b i r s).overlay = s.overlay ∧ (writeResult c b i r s).link = s.link ∧
    (writeResult c b i r s).rest = s.rest ∧ (writeResult c b i r s).pickRaw = s.pickRaw ∧
    (writeResult c b i r s).pending = s.pending := by
  simp only [writeResult]; and_intros <;> (repeat' split) <;> simp

@[simp] theorem completeSearch_frame (c : Chan) (s : State) :
    (completeSearch c s).view = s.view ∧ (completeSearch c s).grid = s.grid ∧
    (completeSearch c s).overlay = s.overlay ∧ (completeSearch c s).link = s.link ∧
    (completeSearch c s).rest = s.rest ∧ (completeSearch c s).pending = s.pending := by
  simp only [completeSearch]; and_intros <;> (repeat' split) <;> simp

@[simp] theorem acceptSettings_frame (c : Chan) (v : Settings) (s : State) :
    (acceptSettings c v s).ports = s.ports ∧ (acceptSettings c v s).stc = s.stc ∧
    (acceptSettings c v s).view = s.view ∧ (acceptSettings c v s).grid = s.grid ∧
    (acceptSettings c v s).picks = s.picks ∧ (acceptSettings c v s).overlay = s.overlay ∧
    (acceptSettings c v s).link = s.link ∧ (acceptSettings c v s).rest = s.rest ∧
    (acceptSettings c v s).pickRaw = s.pickRaw ∧ (acceptSettings c v s).pending = s.pending := by
  simp only [acceptSettings]; and_intros <;> (repeat' split) <;> simp
@[simp] theorem acceptSettings_port (c : Chan) (v : Settings) (s : State) (q : PortId) : (acceptSettings c v s).port q = s.port q := by
  simp [State.port]

@[simp] theorem takeSettings_frame (p : PortId) (i : ParamBlock) (w : List Word) (s : State) :
    (takeSettings p i w s).stc = s.stc ∧ (takeSettings p i w s).view = s.view ∧
    (takeSettings p i w s).grid = s.grid ∧ (takeSettings p i w s).picks = s.picks ∧
    (takeSettings p i w s).overlay = s.overlay ∧ (takeSettings p i w s).link = s.link ∧
    (takeSettings p i w s).rest = s.rest ∧ (takeSettings p i w s).pickRaw = s.pickRaw ∧
    (takeSettings p i w s).pending = s.pending := by
  simp only [takeSettings]; and_intros <;> (repeat' split) <;> simp

@[simp] theorem setChanState_frame (c : Chan) (st : ChanState) (s : State) :
    (setChanState c st s).stc = s.stc ∧ (setChanState c st s).view = s.view ∧
    (setChanState c st s).grid = s.grid ∧ (setChanState c st s).picks = s.picks ∧
    (setChanState c st s).overlay = s.overlay ∧ (setChanState c st s).link = s.link ∧
    (setChanState c st s).rest = s.rest ∧ (setChanState c st s).pickRaw = s.pickRaw ∧
    (setChanState c st s).pending = s.pending := by
  simp only [setChanState]; and_intros <;> (repeat' split) <;> simp

@[simp] theorem expireRest_frame (c : Chan) (s : State) :
    (expireRest c s).stc = s.stc ∧ (expireRest c s).view = s.view ∧
    (expireRest c s).grid = s.grid ∧ (expireRest c s).picks = s.picks ∧
    (expireRest c s).overlay = s.overlay ∧ (expireRest c s).link = s.link ∧
    (expireRest c s).rest = s.rest ∧ (expireRest c s).pickRaw = s.pickRaw ∧
    (expireRest c s).pending = s.pending := by
  simp only [expireRest]; and_intros <;> (repeat' split) <;> simp

@[simp] theorem acceptRest_frame (p : PortId) (i : ParamBlock) (s : State) :
    (acceptRest p i s).stc = s.stc ∧ (acceptRest p i s).view = s.view ∧
    (acceptRest p i s).grid = s.grid ∧ (acceptRest p i s).picks = s.picks ∧
    (acceptRest p i s).overlay = s.overlay ∧ (acceptRest p i s).link = s.link ∧
    (acceptRest p i s).pickRaw = s.pickRaw ∧ (acceptRest p i s).pending = s.pending := by
  simp only [acceptRest]; and_intros <;> (repeat' split) <;> simp

@[simp] theorem takeBeyond_frame (c : Chan) (pt : TabletPoint) (b : BitVec 3) (s : State) :
    (takeBeyond c pt b s).stc = s.stc ∧ (takeBeyond c pt b s).view = s.view ∧
    (takeBeyond c pt b s).grid = s.grid ∧ (takeBeyond c pt b s).picks = s.picks ∧
    (takeBeyond c pt b s).overlay = s.overlay ∧ (takeBeyond c pt b s).link = s.link ∧
    (takeBeyond c pt b s).rest = s.rest ∧ (takeBeyond c pt b s).pickRaw = s.pickRaw ∧
    (takeBeyond c pt b s).pending = s.pending := by
  simp only [takeBeyond]; and_intros <;> (repeat' split) <;> simp

@[simp] theorem takeProxOut_frame (c : Chan) (s : State) :
    (takeProxOut c s).stc = s.stc ∧ (takeProxOut c s).view = s.view ∧
    (takeProxOut c s).grid = s.grid ∧ (takeProxOut c s).picks = s.picks ∧
    (takeProxOut c s).overlay = s.overlay ∧ (takeProxOut c s).link = s.link ∧
    (takeProxOut c s).rest = s.rest ∧ (takeProxOut c s).pickRaw = s.pickRaw ∧
    (takeProxOut c s).pending = s.pending := by
  simp only [takeProxOut]; and_intros <;> (repeat' split) <;> simp

@[simp] theorem actOnReport_frame (c : Chan) (r : Report) (s : State) :
    (actOnReport c r s).stc = s.stc ∧ (actOnReport c r s).view = s.view ∧
    (actOnReport c r s).grid = s.grid ∧ (actOnReport c r s).picks = s.picks ∧
    (actOnReport c r s).overlay = s.overlay ∧ (actOnReport c r s).link = s.link ∧
    (actOnReport c r s).rest = s.rest ∧ (actOnReport c r s).pickRaw = s.pickRaw ∧
    (actOnReport c r s).pending = s.pending := by
  simp only [actOnReport]; and_intros <;> (repeat' split) <;> simp

@[simp] theorem takeReport_frame (c : Chan) (s : State) :
    (takeReport c s).stc = s.stc ∧ (takeReport c s).view = s.view ∧
    (takeReport c s).grid = s.grid ∧ (takeReport c s).picks = s.picks ∧
    (takeReport c s).overlay = s.overlay ∧ (takeReport c s).link = s.link ∧
    (takeReport c s).rest = s.rest ∧ (takeReport c s).pickRaw = s.pickRaw ∧
    (takeReport c s).pending = s.pending := by
  simp only [takeReport]; and_intros <;> (repeat' split) <;> simp

@[simp] theorem acceptResetChannel_frame (p : PortId) (c : Chan) (s : State) :
    (acceptResetChannel p c s).stc = s.stc ∧ (acceptResetChannel p c s).view = s.view ∧
    (acceptResetChannel p c s).grid = s.grid ∧ (acceptResetChannel p c s).picks = s.picks ∧
    (acceptResetChannel p c s).overlay = s.overlay ∧ (acceptResetChannel p c s).link = s.link ∧
    (acceptResetChannel p c s).rest = s.rest ∧ (acceptResetChannel p c s).pickRaw = s.pickRaw ∧
    (acceptResetChannel p c s).pending = s.pending := by
  simp only [acceptResetChannel]; and_intros <;> (repeat' split) <;> simp

@[simp] theorem startBuild_frame (s : State) :
    (startBuild s).ports = s.ports ∧ (startBuild s).chans = s.chans ∧ (startBuild s).stc = s.stc ∧
    (startBuild s).view = s.view ∧ (startBuild s).grid = s.grid ∧ (startBuild s).picks = s.picks ∧
    (startBuild s).link = s.link ∧ (startBuild s).rest = s.rest ∧
    (startBuild s).pickRaw = s.pickRaw ∧ (startBuild s).pending = s.pending := by
  simp only [startBuild]; and_intros <;> (repeat' split) <;> simp
@[simp] theorem startBuild_chan (s : State) (d : Chan) : (startBuild s).chan d = s.chan d := by
  simp [State.chan]
@[simp] theorem startBuild_port (s : State) (q : PortId) : (startBuild s).port q = s.port q := by
  simp [State.port]

@[simp] theorem frameSync_frame (s : State) :
    (frameSync s).chans = s.chans ∧ (frameSync s).stc = s.stc ∧ (frameSync s).view = s.view ∧
    (frameSync s).grid = s.grid ∧ (frameSync s).picks = s.picks ∧ (frameSync s).link = s.link ∧
    (frameSync s).rest = s.rest ∧ (frameSync s).pickRaw = s.pickRaw ∧
    (frameSync s).pending = s.pending := by
  simp only [frameSync]; and_intros <;> (repeat' split) <;> simp
@[simp] theorem frameSync_chan (s : State) (d : Chan) : (frameSync s).chan d = s.chan d := by
  simp [State.chan]

@[simp] theorem releasePin_frame (s : State) :
    (releasePin s).ports = s.ports ∧ (releasePin s).chans = s.chans ∧ (releasePin s).stc = s.stc ∧
    (releasePin s).view = s.view ∧ (releasePin s).grid = s.grid ∧ (releasePin s).picks = s.picks ∧
    (releasePin s).link = s.link ∧ (releasePin s).rest = s.rest ∧
    (releasePin s).pickRaw = s.pickRaw ∧ (releasePin s).pending = s.pending := by
  simp only [releasePin]; and_intros <;> (repeat' split) <;> simp
@[simp] theorem releasePin_chan (s : State) (d : Chan) : (releasePin s).chan d = s.chan d := by
  simp [State.chan]
@[simp] theorem releasePin_port (s : State) (q : PortId) : (releasePin s).port q = s.port q := by
  simp [State.port]

@[simp] theorem completeBuild_frame (s : State) :
    (completeBuild s).chans = s.chans ∧ (completeBuild s).stc = s.stc ∧
    (completeBuild s).view = s.view ∧ (completeBuild s).grid = s.grid ∧
    (completeBuild s).picks = s.picks ∧ (completeBuild s).link = s.link ∧
    (completeBuild s).rest = s.rest ∧ (completeBuild s).pickRaw = s.pickRaw ∧
    (completeBuild s).pending = s.pending := by
  simp only [completeBuild]; and_intros <;> (repeat' split) <;> simp
@[simp] theorem completeBuild_chan (s : State) (d : Chan) : (completeBuild s).chan d = s.chan d := by
  simp [State.chan]

@[simp] theorem acceptFetch_frame (p : PortId) (i : ParamBlock) (s : State) :
    (acceptFetch p i s).chans = s.chans ∧ (acceptFetch p i s).stc = s.stc ∧
    (acceptFetch p i s).view = s.view ∧ (acceptFetch p i s).grid = s.grid ∧
    (acceptFetch p i s).picks = s.picks ∧ (acceptFetch p i s).link = s.link ∧
    (acceptFetch p i s).rest = s.rest ∧ (acceptFetch p i s).pickRaw = s.pickRaw ∧
    (acceptFetch p i s).pending = s.pending := by
  simp only [acceptFetch]; and_intros <;> (repeat' split) <;> simp
@[simp] theorem acceptFetch_chan (p : PortId) (i : ParamBlock) (s : State) (d : Chan) : (acceptFetch p i s).chan d = s.chan d := by
  simp [State.chan]

@[simp] theorem framingError_frame (s : State) :
    (framingError s).chans = s.chans ∧ (framingError s).stc = s.stc ∧
    (framingError s).view = s.view ∧ (framingError s).grid = s.grid ∧
    (framingError s).picks = s.picks ∧ (framingError s).overlay = s.overlay ∧
    (framingError s).rest = s.rest ∧ (framingError s).pickRaw = s.pickRaw ∧
    (framingError s).pending = s.pending := by
  simp only [framingError]; and_intros <;> (repeat' split) <;> simp
@[simp] theorem framingError_chan (s : State) (d : Chan) : (framingError s).chan d = s.chan d := by
  simp [State.chan]

@[simp] theorem deliverFrame_frame (b : Byte) (m : Message) (s : State) :
    (deliverFrame b m s).chans = s.chans ∧ (deliverFrame b m s).stc = s.stc ∧
    (deliverFrame b m s).view = s.view ∧ (deliverFrame b m s).grid = s.grid ∧
    (deliverFrame b m s).picks = s.picks ∧ (deliverFrame b m s).overlay = s.overlay ∧
    (deliverFrame b m s).rest = s.rest ∧ (deliverFrame b m s).pickRaw = s.pickRaw ∧
    (deliverFrame b m s).pending = s.pending := by
  simp only [deliverFrame]; and_intros <;> (repeat' split) <;> simp
@[simp] theorem deliverFrame_chan (b : Byte) (m : Message) (s : State) (d : Chan) : (deliverFrame b m s).chan d = s.chan d := by
  simp [State.chan]

@[simp] theorem completeFrame_frame (l : List Byte) (s : State) :
    (completeFrame l s).chans = s.chans ∧ (completeFrame l s).stc = s.stc ∧
    (completeFrame l s).view = s.view ∧ (completeFrame l s).grid = s.grid ∧
    (completeFrame l s).picks = s.picks ∧ (completeFrame l s).overlay = s.overlay ∧
    (completeFrame l s).rest = s.rest ∧ (completeFrame l s).pickRaw = s.pickRaw ∧
    (completeFrame l s).pending = s.pending := by
  simp only [completeFrame]; and_intros <;> (repeat' split) <;> simp
@[simp] theorem completeFrame_chan (l : List Byte) (s : State) (d : Chan) : (completeFrame l s).chan d = s.chan d := by
  simp [State.chan]

@[simp] theorem frameByte_frame (l : List Byte) (b : Byte) (s : State) :
    (frameByte l b s).chans = s.chans ∧ (frameByte l b s).stc = s.stc ∧
    (frameByte l b s).view = s.view ∧ (frameByte l b s).grid = s.grid ∧
    (frameByte l b s).picks = s.picks ∧ (frameByte l b s).overlay = s.overlay ∧
    (frameByte l b s).rest = s.rest ∧ (frameByte l b s).pickRaw = s.pickRaw ∧
    (frameByte l b s).pending = s.pending := by
  simp only [frameByte]; and_intros <;> (repeat' split) <;> simp
@[simp] theorem frameByte_chan (l : List Byte) (b : Byte) (s : State) (d : Chan) : (frameByte l b s).chan d = s.chan d := by
  simp [State.chan]

@[simp] theorem startFrame_frame (s : State) :
    (startFrame s).ports = s.ports ∧ (startFrame s).chans = s.chans ∧ (startFrame s).stc = s.stc ∧
    (startFrame s).view = s.view ∧ (startFrame s).grid = s.grid ∧ (startFrame s).picks = s.picks ∧
    (startFrame s).overlay = s.overlay ∧ (startFrame s).rest = s.rest ∧
    (startFrame s).pickRaw = s.pickRaw ∧ (startFrame s).pending = s.pending := by
  simp only [startFrame]; and_intros <;> (repeat' split) <;> simp
@[simp] theorem startFrame_chan (s : State) (d : Chan) : (startFrame s).chan d = s.chan d := by
  simp [State.chan]
@[simp] theorem startFrame_port (s : State) (q : PortId) : (startFrame s).port q = s.port q := by
  simp [State.port]

@[simp] theorem arrive_frame (b : Byte) (stop : Bool) (s : State) :
    (arrive b stop s).chans = s.chans ∧ (arrive b stop s).stc = s.stc ∧
    (arrive b stop s).view = s.view ∧ (arrive b stop s).grid = s.grid ∧
    (arrive b stop s).picks = s.picks ∧ (arrive b stop s).overlay = s.overlay ∧
    (arrive b stop s).rest = s.rest ∧ (arrive b stop s).pickRaw = s.pickRaw ∧
    (arrive b stop s).pending = s.pending := by
  simp only [arrive]; and_intros <;> (repeat' split) <;> simp
@[simp] theorem arrive_chan (b : Byte) (stop : Bool) (s : State) (d : Chan) : (arrive b stop s).chan d = s.chan d := by
  simp [State.chan]

@[simp] theorem expireGap_frame (s : State) :
    (expireGap s).chans = s.chans ∧ (expireGap s).stc = s.stc ∧ (expireGap s).view = s.view ∧
    (expireGap s).grid = s.grid ∧ (expireGap s).picks = s.picks ∧
    (expireGap s).overlay = s.overlay ∧ (expireGap s).rest = s.rest ∧
    (expireGap s).pickRaw = s.pickRaw ∧ (expireGap s).pending = s.pending := by
  simp only [expireGap]; and_intros <;> (repeat' split) <;> simp
@[simp] theorem expireGap_chan (s : State) (d : Chan) : (expireGap s).chan d = s.chan d := by
  simp [State.chan]

@[simp] theorem offerFrame_frame (s : State) :
    (offerFrame s).ports = s.ports ∧ (offerFrame s).stc = s.stc ∧ (offerFrame s).view = s.view ∧
    (offerFrame s).grid = s.grid ∧ (offerFrame s).picks = s.picks ∧
    (offerFrame s).overlay = s.overlay ∧ (offerFrame s).rest = s.rest ∧
    (offerFrame s).pickRaw = s.pickRaw ∧ (offerFrame s).pending = s.pending := by
  simp only [offerFrame]; and_intros <;> (repeat' split) <;> simp
@[simp] theorem offerFrame_port (s : State) (q : PortId) : (offerFrame s).port q = s.port q := by
  simp [State.port]

@[simp] theorem acceptStation_frame (p : PortId) (i : ParamBlock) (c : Chan) (s : State) :
    (acceptStation p i c s).chans = s.chans ∧ (acceptStation p i c s).stc = s.stc ∧
    (acceptStation p i c s).view = s.view ∧ (acceptStation p i c s).grid = s.grid ∧
    (acceptStation p i c s).picks = s.picks ∧ (acceptStation p i c s).overlay = s.overlay ∧
    (acceptStation p i c s).rest = s.rest ∧ (acceptStation p i c s).pickRaw = s.pickRaw ∧
    (acceptStation p i c s).pending = s.pending := by
  simp only [acceptStation]; and_intros <;> (repeat' split) <;> simp
@[simp] theorem acceptStation_chan (p : PortId) (i : ParamBlock) (c : Chan) (s : State) (d : Chan) : (acceptStation p i c s).chan d = s.chan d := by
  simp [State.chan]

@[simp] theorem acceptClearLink_frame (p : PortId) (s : State) :
    (acceptClearLink p s).chans = s.chans ∧ (acceptClearLink p s).stc = s.stc ∧
    (acceptClearLink p s).view = s.view ∧ (acceptClearLink p s).grid = s.grid ∧
    (acceptClearLink p s).picks = s.picks ∧ (acceptClearLink p s).overlay = s.overlay ∧
    (acceptClearLink p s).rest = s.rest ∧ (acceptClearLink p s).pickRaw = s.pickRaw ∧
    (acceptClearLink p s).pending = s.pending := by
  simp only [acceptClearLink]; and_intros <;> (repeat' split) <;> simp
@[simp] theorem acceptClearLink_chan (p : PortId) (s : State) (d : Chan) : (acceptClearLink p s).chan d = s.chan d := by
  simp [State.chan]

@[simp] theorem acceptClearEvents_frame (p : PortId) (i : ParamBlock) (s : State) :
    (acceptClearEvents p i s).chans = s.chans ∧ (acceptClearEvents p i s).stc = s.stc ∧
    (acceptClearEvents p i s).view = s.view ∧ (acceptClearEvents p i s).grid = s.grid ∧
    (acceptClearEvents p i s).picks = s.picks ∧ (acceptClearEvents p i s).overlay = s.overlay ∧
    (acceptClearEvents p i s).link = s.link ∧ (acceptClearEvents p i s).rest = s.rest ∧
    (acceptClearEvents p i s).pickRaw = s.pickRaw ∧ (acceptClearEvents p i s).pending = s.pending := by
  simp only [acceptClearEvents]; and_intros <;> (repeat' split) <;> simp
@[simp] theorem acceptClearEvents_chan (p : PortId) (i : ParamBlock) (s : State) (d : Chan) : (acceptClearEvents p i s).chan d = s.chan d := by
  simp [State.chan]

@[simp] theorem takeRecord_frame (p : PortId) (c : Progress) (w : List Word) (s : State) :
    (takeRecord p c w s).picks = s.picks ∧ (takeRecord p c w s).overlay = s.overlay ∧
    (takeRecord p c w s).link = s.link ∧ (takeRecord p c w s).rest = s.rest ∧
    (takeRecord p c w s).pickRaw = s.pickRaw ∧ (takeRecord p c w s).pending = s.pending := by
  simp only [takeRecord]; and_intros <;> (repeat' split) <;> simp

@[simp] theorem moveWordIn_frame (p : PortId) (w : Word) (s : State) :
    (moveWordIn p w s).picks = s.picks ∧ (moveWordIn p w s).overlay = s.overlay ∧
    (moveWordIn p w s).link = s.link ∧ (moveWordIn p w s).rest = s.rest ∧
    (moveWordIn p w s).pickRaw = s.pickRaw ∧ (moveWordIn p w s).pending = s.pending := by
  simp only [moveWordIn]; and_intros <;> (repeat' split) <;> simp

@[simp] theorem present_frame (p : PortId) (w : List Word) (s : State) :
    (present p w s).chans = s.chans ∧ (present p w s).stc = s.stc ∧
    (present p w s).view = s.view ∧ (present p w s).grid = s.grid ∧
    (present p w s).picks = s.picks ∧ (present p w s).overlay = s.overlay ∧
    (present p w s).link = s.link ∧ (present p w s).rest = s.rest ∧
    (present p w s).pickRaw = s.pickRaw ∧ (present p w s).pending = s.pending := by
  simp only [present]; and_intros <;> (repeat' split) <;> simp
@[simp] theorem present_chan (p : PortId) (w : List Word) (s : State) (d : Chan) : (present p w s).chan d = s.chan d := by
  simp [State.chan]

@[simp] theorem pickRead_frame (p : PortId) (s : State) :
    (pickRead p s).chans = s.chans ∧ (pickRead p s).stc = s.stc ∧ (pickRead p s).view = s.view ∧
    (pickRead p s).grid = s.grid ∧ (pickRead p s).overlay = s.overlay ∧
    (pickRead p s).link = s.link ∧ (pickRead p s).rest = s.rest ∧
    (pickRead p s).pending = s.pending := by
  simp only [pickRead]; and_intros <;> (repeat' split) <;> simp
@[simp] theorem pickRead_chan (p : PortId) (s : State) (d : Chan) : (pickRead p s).chan d = s.chan d := by
  simp [State.chan]

@[simp] theorem frameRecordRead_frame (p : PortId) (s : State) :
    (frameRecordRead p s).chans = s.chans ∧ (frameRecordRead p s).stc = s.stc ∧
    (frameRecordRead p s).view = s.view ∧ (frameRecordRead p s).grid = s.grid ∧
    (frameRecordRead p s).picks = s.picks ∧ (frameRecordRead p s).link = s.link ∧
    (frameRecordRead p s).rest = s.rest ∧ (frameRecordRead p s).pickRaw = s.pickRaw ∧
    (frameRecordRead p s).pending = s.pending := by
  simp only [frameRecordRead]; and_intros <;> (repeat' split) <;> simp
@[simp] theorem frameRecordRead_chan (p : PortId) (s : State) (d : Chan) : (frameRecordRead p s).chan d = s.chan d := by
  simp [State.chan]

@[simp] theorem recordRead_frame (p : PortId) (op : Command) (s : State) :
    (recordRead p op s).chans = s.chans ∧ (recordRead p op s).stc = s.stc ∧
    (recordRead p op s).view = s.view ∧ (recordRead p op s).grid = s.grid ∧
    (recordRead p op s).link = s.link ∧ (recordRead p op s).rest = s.rest ∧
    (recordRead p op s).pending = s.pending := by
  simp only [recordRead]; and_intros <;> (repeat' split) <;> simp
@[simp] theorem recordRead_chan (p : PortId) (op : Command) (s : State) (d : Chan) : (recordRead p op s).chan d = s.chan d := by
  simp [State.chan]

@[simp] theorem moveWordOut_frame (p : PortId) (s : State) :
    (moveWordOut p s).chans = s.chans ∧ (moveWordOut p s).stc = s.stc ∧
    (moveWordOut p s).view = s.view ∧ (moveWordOut p s).grid = s.grid ∧
    (moveWordOut p s).link = s.link ∧ (moveWordOut p s).rest = s.rest ∧
    (moveWordOut p s).pending = s.pending := by
  simp only [moveWordOut]; and_intros <;> (repeat' split) <;> simp
@[simp] theorem moveWordOut_chan (p : PortId) (s : State) (d : Chan) : (moveWordOut p s).chan d = s.chan d := by
  simp [State.chan]

@[simp] theorem releaseFor_frame (op : Command) (s : State) :
    (releaseFor op s).ports = s.ports ∧ (releaseFor op s).chans = s.chans ∧
    (releaseFor op s).stc = s.stc ∧ (releaseFor op s).view = s.view ∧
    (releaseFor op s).grid = s.grid ∧ (releaseFor op s).picks = s.picks ∧
    (releaseFor op s).link = s.link ∧ (releaseFor op s).rest = s.rest ∧
    (releaseFor op s).pickRaw = s.pickRaw ∧ (releaseFor op s).pending = s.pending := by
  simp only [releaseFor]; and_intros <;> (repeat' split) <;> simp
@[simp] theorem releaseFor_chan (op : Command) (s : State) (d : Chan) : (releaseFor op s).chan d = s.chan d := by
  simp [State.chan]
@[simp] theorem releaseFor_port (op : Command) (s : State) (q : PortId) : (releaseFor op s).port q = s.port q := by
  simp [State.port]

@[simp] theorem timeOut_frame (p : PortId) (s : State) :
    (timeOut p s).chans = s.chans ∧ (timeOut p s).stc = s.stc ∧ (timeOut p s).view = s.view ∧
    (timeOut p s).grid = s.grid ∧ (timeOut p s).picks = s.picks ∧ (timeOut p s).link = s.link ∧
    (timeOut p s).rest = s.rest ∧ (timeOut p s).pickRaw = s.pickRaw ∧
    (timeOut p s).pending = s.pending := by
  simp only [timeOut]; and_intros <;> (repeat' split) <;> simp
@[simp] theorem timeOut_chan (p : PortId) (s : State) (d : Chan) : (timeOut p s).chan d = s.chan d := by
  simp [State.chan]

@[simp] theorem abandon_frame (p : PortId) (s : State) :
    (abandon p s).ports = s.ports ∧ (abandon p s).chans = s.chans ∧ (abandon p s).view = s.view ∧
    (abandon p s).grid = s.grid ∧ (abandon p s).picks = s.picks ∧ (abandon p s).link = s.link ∧
    (abandon p s).rest = s.rest ∧ (abandon p s).pickRaw = s.pickRaw ∧
    (abandon p s).pending = s.pending := by
  simp only [abandon]; and_intros <;> (repeat' split) <;> simp
@[simp] theorem abandon_chan (p : PortId) (s : State) (d : Chan) : (abandon p s).chan d = s.chan d := by
  simp [State.chan]
@[simp] theorem abandon_port (p : PortId) (s : State) (q : PortId) : (abandon p s).port q = s.port q := by
  simp [State.port]

@[simp] theorem writeControl_frame (p : PortId) (v : Byte) (s : State) :
    (writeControl p v s).chans = s.chans ∧ (writeControl p v s).view = s.view ∧
    (writeControl p v s).grid = s.grid ∧ (writeControl p v s).picks = s.picks ∧
    (writeControl p v s).link = s.link ∧ (writeControl p v s).rest = s.rest ∧
    (writeControl p v s).pickRaw = s.pickRaw ∧ (writeControl p v s).pending = s.pending := by
  simp only [writeControl]; and_intros <;> (repeat' split) <;> simp
@[simp] theorem writeControl_chan (p : PortId) (v : Byte) (s : State) (d : Chan) : (writeControl p v s).chan d = s.chan d := by
  simp [State.chan]

@[simp] theorem issueUnknown_frame (p : PortId) (s : State) :
    (issueUnknown p s).chans = s.chans ∧ (issueUnknown p s).stc = s.stc ∧
    (issueUnknown p s).view = s.view ∧ (issueUnknown p s).grid = s.grid ∧
    (issueUnknown p s).picks = s.picks ∧ (issueUnknown p s).overlay = s.overlay ∧
    (issueUnknown p s).link = s.link ∧ (issueUnknown p s).rest = s.rest ∧
    (issueUnknown p s).pickRaw = s.pickRaw ∧ (issueUnknown p s).pending = s.pending := by
  simp only [issueUnknown]; and_intros <;> (repeat' split) <;> simp
@[simp] theorem issueUnknown_chan (p : PortId) (s : State) (d : Chan) : (issueUnknown p s).chan d = s.chan d := by
  simp [State.chan]

end Sys2Proof.Machine
end

