-- ==== Sys2Proof/Laws/Operands.lean ====
section
/-! SUPPORT. Operand forms: words and fields, codes of named values, and event sets. -/
namespace Sys2Proof.Machine

/-- The two words of a 32-bit value are its halves. -/
theorem coordOfWords_append (lo hi : Word) : coordOfWords lo hi = (hi ++ lo : Coord) := by
  apply BitVec.eq_of_toNat_eq
  simp only [coordOfWords, BitVec.toNat_ofNat, BitVec.toNat_append]
  rw [← Nat.shiftLeft_add_eq_or_of_lt lo.isLt, Nat.shiftLeft_eq]
  omega

/-- A 32-bit value is read back from its halves. -/
theorem coordOfWords_halves (x : Coord) :
    coordOfWords (x.setWidth 16) ((x >>> 16).setWidth 16) = x := by
  rw [coordOfWords_append]
  apply BitVec.eq_of_toNat_eq
  simp only [BitVec.toNat_append, BitVec.toNat_setWidth, BitVec.toNat_ushiftRight]
  rw [← Nat.shiftLeft_add_eq_or_of_lt (by omega), Nat.shiftLeft_eq, Nat.shiftRight_eq_div_pow]
  have := x.isLt
  omega

theorem snapKind_ofCode_code (k : SnapKind) : SnapKind.ofCode k.code = some k := by cases k <;> rfl

theorem template_ofCode_code (t : Template) : Template.ofCode t.code = some t := by cases t <;> rfl

theorem action_ofCode_code (a : Action) : Action.ofCode a.code = some a := by cases a <;> rfl

/-- The codes that name no snap kind. -/
theorem snapKind_ofCode_none (n : Nat) : SnapKind.ofCode n = none ↔ n < 1 ∨ 6 < n := by
  constructor
  · intro h
    by_cases hc : n < 1 ∨ 6 < n
    · exact hc
    · have : n = 1 ∨ n = 2 ∨ n = 3 ∨ n = 4 ∨ n = 5 ∨ n = 6 := by omega
      rcases this with rfl | rfl | rfl | rfl | rfl | rfl <;> simp [SnapKind.ofCode, SnapKind.code] at h
  · intro h
    simp only [SnapKind.ofCode, List.find?_eq_none]
    intro k _
    cases k <;> simp [SnapKind.code] <;> omega

/-- No two events share a position. -/
theorem isIn_toSet (e e' : Event) : e.isIn e'.toSet = decide (e = e') := by
  cases e <;> cases e' <;>
    first | rfl | (rename_i c; cases c <;> first | rfl | (rename_i d; cases d <;> rfl))

/-- What a raise latches. -/
theorem isIn_raise (e e' : Event) (s : State) (p : PortId) :
    e.isIn ((raise e' s).port p).latched = true ↔
      e.isIn (s.port p).latched = true ∨ e = e' := by
  have h := isIn_toSet e e'
  simp only [Event.isIn] at h
  simp only [port_raise, Event.isIn, BitVec.getLsbD_or, Bool.or_eq_true, h, decide_eq_true_eq]

theorem isIn_raiseIf (b : Bool) (e e' : Event) (s : State) (p : PortId) :
    e.isIn ((raiseIf b e' s).port p).latched = true ↔
      e.isIn (s.port p).latched = true ∨ (e = e' ∧ b = true) := by
  unfold raiseIf
  split
  · next h => rw [isIn_raise]; simp [h]
  · next h => simp [h]

/-! ## The reserved positions of an event set -/

/-- No event stands at a reserved position (R196). -/
theorem toSet_reserved (e : Event) : e.toSet.getLsbD 7 = false ∧ e.toSet.getLsbD 15 = false := by
  cases e <;> first | decide | (rename_i c; cases c <;> decide)

theorem raise_reserved (e : Event) (s : State) (p : PortId) :
    ((raise e s).port p).latched.getLsbD 7 = (s.port p).latched.getLsbD 7 ∧
    ((raise e s).port p).latched.getLsbD 15 = (s.port p).latched.getLsbD 15 := by
  simp only [port_raise, BitVec.getLsbD_or, toSet_reserved, Bool.or_false, and_self]

theorem withPickAvailable_reserved (raw : Bool) (set : EventSet) :
    (withPickAvailable raw set).getLsbD 7 = set.getLsbD 7 ∧
    (withPickAvailable raw set).getLsbD 15 = set.getLsbD 15 := by
  have h := toSet_reserved .pickAvailable
  cases raw <;>
    simp only [withPickAvailable, if_true, Bool.false_eq_true, if_false, BitVec.getLsbD_or,
      BitVec.getLsbD_and, BitVec.getLsbD_not, h] <;> simp

/-- The mask that an accepted SET EVENT MASK writes. -/
theorem events_reserved {b : ParamBlock} (h : b.eventsOk = true) :
    b.events.getLsbD 7 = false ∧ b.events.getLsbD 15 = false := by
  have h' : b.events &&& reservedEvents = 0 := by simpa [ParamBlock.eventsOk] using h
  have h7 := congrArg (·.getLsbD 7) h'
  have h15 := congrArg (·.getLsbD 15) h'
  simpa [reservedEvents] using And.intro h7 h15

end Sys2Proof.Machine
end

