-- ==== Sys2Proof/Laws/Layouts.lean ====
section
/-! SUPPORT. The records a master reads and the outputs of the commands that move records stand where
R195 and R198 put them. -/
namespace Sys2Proof.Machine

/-! ## Records -/

theorem point_toWords (p : Point) : p.toWords = pointLayout p := by
  have h (x : Coord) : Coord.toWords x = [x.setWidth 16, (x >>> 16).setWidth 16] := by
    simp only [Coord.toWords, wordOf, List.cons.injEq, and_true]
    constructor <;> apply BitVec.eq_of_toNat_eq <;>
      simp [BitVec.toNat_ofNat, Nat.shiftRight_eq_div_pow]
  simp [Point.toWords, pointLayout, h]

theorem tabletWord_eq (t : TabletCoord) : tabletWord t = t.setWidth 16 := by
  apply BitVec.eq_of_toNat_eq
  simp [tabletWord, wordOf]

theorem hit_words (h : Option Hit) : [hitHandleWord h, hitKindWord h] = hitLayout h := by
  cases h with
  | none => rfl
  | some h => obtain ⟨_, k, _⟩ := h; cases k <;> rfl

theorem template_code (t : Template) : t.code = templatesByCode.idxOf t := by cases t <;> rfl

theorem basis_code (b : ResultBasis) : b.code = basisNumber b := by cases b <;> rfl

theorem fault_code (f : FaultCode) : f.code = faultsByCode.idxOf f := by cases f <;> rfl

theorem cursorWords_eq (ch : Channel) : ch.cursorWords = cursorLayout ch := by
  have st (s : ChanState) : s.code = [ChanState.detached, .tracking, .resting, .away].idxOf s := by
    cases s <;> rfl
  have sg (s : Stage) : s.code = [Stage.idle, .armed, .banding, .hold, .stalled].idxOf s := by
    cases s <;> rfl
  have se (s : Search) : s.code =
      (match s with | .quiet => 0 | .waiting _ _ => 1 | .searching _ _ _ => 2) := by cases s <;> rfl
  simp only [Channel.cursorWords, cursorLayout, st, sg, se, template_code, basis_code, tabletWord_eq,
    point_toWords, ← hit_words]
  rfl

theorem pickRecord_toWords (r : PickRecord) : r.toWords = pickLayout r := by
  have ch (c : Chan) : chanCode c = [Chan.c0, .c1].idxOf c := by cases c <;> rfl
  have kd (k : RecordKind) :
      k.code = [RecordKind.point, .anchor, .done, .finish, .cancelled].idxOf k := by cases k <;> rfl
  simp only [PickRecord.toWords, pickLayout, ch, kd, template_code, basis_code, tabletWord_eq,
    point_toWords, ← hit_words]
  simp [wordOf, bit, flagBit]

theorem frame_header (f : Frame) : f.header = headerLayout f := by
  have h : wordOf (f.gen.toNat + 256 * f.strokes.length) = BitVec.ofNat 8 f.strokes.length ++ f.gen := by
    apply BitVec.eq_of_toNat_eq
    simp only [wordOf, BitVec.toNat_ofNat, BitVec.toNat_append]
    rw [← Nat.shiftLeft_add_eq_or_of_lt f.gen.isLt, Nat.shiftLeft_eq]
    have := f.gen.isLt
    omega
  simp only [Frame.header, headerWords, headerLayout, h]
  rfl

theorem stroke_toWords (k : Stroke) : k.toWords = strokeLayout k := by
  have ch (c : Chan) : chanCode c = [Chan.c0, .c1].idxOf c := by cases c <;> rfl
  have kd (s : SnapKind) : s.code = 1 + kindsByCode.idxOf s := by cases s <;> rfl
  have fm (f : CrosshairForm) : f.code = [CrosshairForm.full, .arms].idxOf f := by cases f <;> rfl
  have pt (p : Pattern) : p.code = [Pattern.solid, .dashed].idxOf p := by cases p <;> rfl
  obtain ⟨sh, c, l⟩ := k
  cases sh <;>
    simp [Stroke.toWords, strokeLayout, shapeLayout, Shape.code, Shape.styleCode, Shape.kindCode,
      Shape.points, pointSlots, ch, kd, fm, pt, point_toWords, wordOf, bit, flagBit,
      List.replicate]

/-- The segments of a polyline join each anchor to the next (R139). -/
theorem segments_eq_zip (c : Chan) (l : List Point) :
    segments c l = (l.zip l.tail).map fun ab =>
      { shape := .segment ab.1 ab.2 .solid, chan := c, live := false } := by
  induction l with
  | nil => rfl
  | cons a r ih => cases r with
    | nil => rfl
    | cons b r => simp [segments, ih]

/-! ## Outputs -/

/-- The two bytes of a count. -/
theorem countBytes (n : Nat) : (highByte n ++ lowByte n : Word) = BitVec.ofNat 16 n := by
  apply BitVec.eq_of_toNat_eq
  simp only [highByte, lowByte, BitVec.toNat_append, BitVec.toNat_ofNat]
  rw [← Nat.shiftLeft_add_eq_or_of_lt (by omega), Nat.shiftLeft_eq]
  omega

/-- The ninth bits of four counts, as PARAM3 shows them. -/
theorem showsNinthBits (a b c d : Nat) :
    ShowsNinthBits (lowByte (ninthBit a + 2 * ninthBit b + 4 * ninthBit c + 8 * ninthBit d)) a b c d := by
  have key (n : Nat) : ninthBit n = bit (n.testBit 8) := by
    simp only [ninthBit, bit, Nat.testBit_eq_decide_div_mod_eq]
    split <;> simp_all
  intro i
  simp only [key]
  generalize a.testBit 8 = x
  generalize b.testBit 8 = y
  generalize c.testBit 8 = z
  generalize d.testBit 8 = u
  rcases i with _ | _ | _ | _ | i
  · cases x <;> cases y <;> cases z <;> cases u <;> rfl
  · cases x <;> cases y <;> cases z <;> cases u <;> rfl
  · cases x <;> cases y <;> cases z <;> cases u <;> rfl
  · cases x <;> cases y <;> cases z <;> cases u <;> rfl
  · have h : bit x + 2 * bit y + 4 * bit z + 8 * bit u < 2 ^ (i + 4) := by
      have : 2 ^ 4 ≤ 2 ^ (i + 4) := Nat.pow_le_pow_right (by omega) (by omega)
      cases x <;> cases y <;> cases z <;> cases u <;> simp [bit] at * <;> omega
    simp [lowByte, BitVec.getLsbD_ofNat, Nat.testBit_lt_two_pow h]

theorem showsTable_tableOutputs (c : Progress) : ShowsTable c (tableOutputs c) := by
  have n := showsNinthBits 0 0 0 (c.total - c.moved)
  unfold ShowsTable tableOutputs
  refine ⟨fun h => ?_, fun h => ?_, fun h => ?_, fun h => ?_⟩ <;> rw [h]
  · exact ⟨rfl, rfl, rfl, rfl, fun i => showsNinthBits _ _ _ _ i⟩
  · refine ⟨countBytes _, rfl, rfl, ?_⟩
    simpa [ninthBit, Progress.remaining] using n
  · exact ⟨countBytes _, countBytes _, rfl⟩
  · exact ⟨countBytes _, rfl, rfl, rfl⟩

theorem showsPicks_pickOutputs (moved held left : Nat) :
    ShowsPicks moved held left (pickOutputs moved held left) := by
  refine ⟨rfl, rfl, rfl, rfl, ?_⟩
  have := showsNinthBits moved 0 0 left
  simpa [pickOutputs, ninthBit] using this

theorem showsFetch_fetchOutputs (c : Progress) (swapped : Bool) (remaining : Nat) :
    ShowsFetch c.frameNo c.strokes swapped remaining (fetchOutputs c swapped remaining) := by
  refine ⟨?_, rfl, rfl, rfl⟩
  simp only [fetchOutputs, countBytes, BitVec.ofNat_toNat, BitVec.setWidth_eq]

end Sys2Proof.Machine
end

