-- ==== Sys2Proof/Laws/Ops.lean ====
section
/-! SUPPORT. What the shared operations can do, once each: the starts that are due, one event, and the
issue of a command. -/
namespace Sys2Proof.Machine

/-! ## Starts -/

theorem startSearch_of_not_granted (c : Chan) (s : State) (h : granted (s.chan c).search = false) :
    startSearch c s = s := by
  unfold startSearch
  split
  · next b hb => simp [hb, granted] at h
  · rfl
  · rfl
  · rfl

theorem settle_of_nothingDue {s : State} (h : NothingDue s) : settle s = s := by
  obtain ⟨h0, h1, hb⟩ := h
  simp [settle, startSearch_of_not_granted .c0 s h0, startSearch_of_not_granted .c1 s h1, hb]

/-- What one event answers where no start is due. -/
theorem event_of_nothingDue {s : State} (h : NothingDue s) (f : State → State) :
    event f s = .next (driveAttention s (f s)) := by
  simp [event, settle_of_nothingDue h]

/-- An event whose body changes nothing leaves all as it was, but for the attention outputs that follow. -/
theorem driveAttention_self (s : State) :
    driveAttention s s = { s with ports := (driveAttention s s).ports } ∧
      PortsKept id s (driveAttention s s) := ⟨rfl, rfl, rfl⟩

/-- What an event answers in a state where it cannot arise, no start being due (log 2). -/
theorem event_without_effect {s : State} (h : NothingDue s) (f : State → State)
    (hf : f s = s) :
    ∃ t, event f s = .next t ∧ t = { s with ports := t.ports } ∧ PortsKept id s t :=
  ⟨_, by rw [event_of_nothingDue h, hf], driveAttention_self s⟩

theorem startSearch_chan_other (c d : Chan) (s : State) (h : d ≠ c) :
    (startSearch c s).chan d = s.chan d := by
  unfold startSearch
  split <;> first | rfl | (cases c <;> cases d <;> first | rfl | exact absurd rfl h)

theorem granted_startSearch (c : Chan) (s : State) :
    granted ((startSearch c s).chan c).search = false := by
  unfold startSearch
  split
  · cases c <;> rfl
  · next h => simp [h, granted]
  · next h => simp [h, granted]
  · next h => simp [h, granted]

theorem startBatch_of_not_due {s : State} (h : batchDue s = false) : startBatch s = s := by
  simp [startBatch, h]

theorem openRecord_stc (p : PortId) (s : State) : (openRecord p s).stc = s.stc := by
  unfold openRecord; split
  · rfl
  · split <;> rfl

theorem openWithheld_stc (s : State) : (openWithheld s).stc = s.stc := by
  unfold openWithheld
  dsimp only
  split
  · exact openRecord_stc ..
  · rfl

theorem joinWaitingClear_access (s : State) (h : s.stc.access = .applying) :
    (joinWaitingClear s).stc.access = .applying := by
  unfold joinWaitingClear
  split
  · exact h
  · split
    · simp [joinItem, h]
    · exact h

theorem startBatch_access {s : State} (h : batchDue s = true) :
    (startBatch s).stc.access = .applying := by
  unfold startBatch
  rw [if_pos h, openWithheld_stc]
  exact joinWaitingClear_access _ rfl

/-- After the starts that were due, none is. -/
theorem nothingDue_settle (s : State) : NothingDue (settle s) := by
  have h0 : granted ((startSearch .c1 (startSearch .c0 s)).chan .c0).search = false := by
    rw [startSearch_chan_other _ _ _ (by decide)]
    exact granted_startSearch ..
  have h1 := granted_startSearch .c1 (startSearch .c0 s)
  unfold settle
  by_cases hb : batchDue (startSearch .c1 (startSearch .c0 s)) = true
  · simp only [hb, if_true]
    refine ⟨?_, ?_, ?_⟩
    · rw [chan_driveAttention, startBatch_chan]; exact h0
    · rw [chan_driveAttention, startBatch_chan]; exact h1
    · simp [batchDue, startBatch_access hb]
  · simp only [hb]
    exact ⟨h0, h1, by simpa using hb⟩

/-- An event runs after the starts that were due. -/
theorem event_settle (f : State → State) (s : State) : event f (settle s) = event f s := by
  rw [event_of_nothingDue (nothingDue_settle s)]; rfl

/-! ## The issue of a command -/

theorem issue_outside_ready {p : PortId} {op : Command} {body : ParamBlock → State → State}
    {s : State} (h : (s.port p).state ≠ .ready) : issue p op body s = collide p s := by
  simp [issue, h]

theorem issue_role {p : PortId} {op : Command} {body : ParamBlock → State → State} {s : State}
    (h : (s.port p).state = .ready) (hr : inRole op p = false) :
    issue p op body s = refuse p .role (accept p s) := by
  simp [issue, h, hr]

theorem issue_param {p : PortId} {op : Command} {body : ParamBlock → State → State} {s : State}
    (h : (s.port p).state = .ready) (hr : inRole op p = true)
    (hp : paramsOk op (s.port p).window = false) :
    issue p op body s = refuse p .param (accept p s) := by
  simp [issue, h, hr, hp]

theorem issue_accepted {p : PortId} {op : Command} {body : ParamBlock → State → State} {s : State}
    {w : ParamBlock} (h : (s.port p).state = .ready) (hw : (s.port p).window = w)
    (hr : inRole op p = true) (hp : paramsOk op w = true) :
    issue p op body s = body w (accept p s) := by
  simp [issue, h, hr, hp, hw]

/-- The row of a command is one issue of it. -/
theorem exec_row (p : PortId) (op : Command) :
    ∃ body, ∀ s, exec (rowOfCode p op.code) s = event (issue p op body) s := by
  cases op <;> exact ⟨_, fun _ => rfl⟩

/-! ## Ports after the shared operations -/

@[simp] theorem port_accept_same (p : PortId) (s : State) :
    (accept p s).port p = { s.port p with done := false, fault := .none, collide := false } := by
  simp [accept]

@[simp] theorem port_complete_same (p : PortId) (o : ParamBlock) (f : FaultCode) (s : State) :
    (complete p o f s).port p = completedPort (s.port p) o f := by
  simp [complete, completedPort]

@[simp] theorem port_collide_same (p : PortId) (s : State) :
    (collide p s).port p = { s.port p with collide := true } := by
  simp [collide]

@[simp] theorem otherPort_ne (p : PortId) : otherPort p ≠ p := by cases p <;> decide

@[simp] theorem port_accept_other (p : PortId) (s : State) :
    (accept p s).port (otherPort p) = s.port (otherPort p) := by
  simp [accept]

@[simp] theorem port_complete_other (p : PortId) (o : ParamBlock) (f : FaultCode) (s : State) :
    (complete p o f s).port (otherPort p) = s.port (otherPort p) := by
  simp [complete]

@[simp] theorem port_collide_other (p : PortId) (s : State) :
    (collide p s).port (otherPort p) = s.port (otherPort p) := by
  simp [collide]

/-- A state is its two ports and the rest. -/
theorem with_ports_eq {s t : State} (h : ∀ p, t.port p = s.port p) : t.ports = s.ports := by
  have ha := h .a
  have hb := h .b
  cases ht : t.ports; cases hs : s.ports
  simp_all [State.port, PerPort.get]

/-- A read of a byte position answers the state with that byte on the data lines. -/
theorem readBytePosition_next (p : PortId) (value : PortState → Byte) {s : State} (h : NothingDue s) :
    ∃ t, readBytePosition p value s = .next t ∧ t = { s with ports := t.ports } ∧
      PortsBecome p { s.port p with readData := (value (s.port p)).setWidth 16 } id s t := by
  refine ⟨_, by unfold readBytePosition event; rw [settle_of_nothingDue h], ?_, ?_⟩
  · cases p <;> rfl
  · cases p <;> exact ⟨rfl, rfl⟩

end Sys2Proof.Machine
end

