-- ==== Sys2Proof/Laws/Ports.lean ====
section
/-! SUPPORT. What the operations of a data phase can do, once each: the turn to a record, the move of a
word, and the end of a table command's phase. -/
namespace Sys2Proof.Machine

theorem chanOfByte_chanByte (c : Chan) : chanOfByte (chanByte c) = some c := by cases c <;> rfl

theorem withChannel_chanByte (w : ParamBlock) (c : Chan) (body : Chan → State → State) (s : State)
    (h : w.p0 = chanByte c) : withChannel w body s = body c s := by
  simp [withChannel, h, chanOfByte_chanByte]

/-- DREQ and burst attention at the turn to a record. -/
theorem openRecord_eq {p : PortId} {s : State} {c : Progress} (h : (s.port p).cmd = some c) :
    openRecord p s = s.updPort p fun q =>
      { q with dreq := !withholds c.op s, burstAttn := !withholds c.op s && c.burstPos == 0 } := by
  unfold openRecord
  rw [h]; dsimp only
  cases withholds c.op s <;> simp

theorem withholds_table {op : Command} {s : State} (h : isTableCommand op = true) :
    withholds op s = !decide (s.stc.queue.length < 16) := by
  simp only [withholds, h, Config.editQueueItems, Bool.true_and]
  by_cases h2 : s.stc.queue.length < 16
  · simp [h2, Nat.not_le.mpr h2]
  · simp [h2, Nat.not_lt.mp h2]

theorem withholds_other {op : Command} {s : State} (h : isTableCommand op = false) :
    withholds op s = false := by
  simp [withholds, h]

/-- The acceptance of a command with a data phase whose DREQ the edit queue cannot withhold. -/
theorem startDataOut_eq (p : PortId) {op : Command} (i : ParamBlock) (n : Nat) (w : List Word)
    (s : State) (h : isTableCommand op = false) :
    startDataOut p op i n w s = s.updPort p fun q =>
      { q with state := .dataOut, dreq := true, burstAttn := true,
               cmd := some (.start op i n w) } := by
  rw [startDataOut, openRecord_eq (c := .start op i n w) (by rw [port_updPort_same]),
    withholds_other (by exact h)]
  cases p <;> rfl

theorem startDataIn_eq (p : PortId) {op : Command} (i : ParamBlock) (n : Nat) (s : State)
    (h : isTableCommand op = false) :
    startDataIn p op i n s = s.updPort p fun q =>
      { q with state := .dataIn, dreq := true, burstAttn := true,
               cmd := some (.start op i n []) } := by
  rw [startDataIn, openRecord_eq (c := .start op i n []) (by rw [port_updPort_same]),
    withholds_other (by exact h)]
  cases p <;> rfl

/-! ## A word moves -/

theorem moveWordIn_within {p : PortId} {w : Word} {s : State} {c : Progress}
    (hc : (s.port p).cmd = some c) (hl : c.words.length + 1 < recordWords c.op) :
    moveWordIn p w s = s.setPort p { s.port p with
      burstAttn := false, cmd := some { c with words := c.words ++ [w] } } := by
  simp only [moveWordIn, hc, List.length_append, List.length_singleton, hl, if_true]
  cases p <;> simp_all [updCmd, State.updPort, State.setPort, State.port, PerPort.get, PerPort.set]

theorem moveWordIn_last {p : PortId} {w : Word} {s : State} {c : Progress}
    (hc : (s.port p).cmd = some c) (hl : recordWords c.op ≤ c.words.length + 1) :
    moveWordIn p w s = takeRecord p c (c.words ++ [w]) (s.setPort p { s.port p with
      dreq := false, burstAttn := false, cmd := some { c with words := c.words ++ [w] } }) := by
  simp only [moveWordIn, hc, List.length_append, List.length_singleton, Nat.not_lt.mpr hl, if_false]
  cases p <;> simp_all [updCmd, State.updPort, State.setPort, State.port, PerPort.get, PerPort.set]

theorem moveWordOut_within {p : PortId} {s : State} {c : Progress} {w w' : Word} {rest : List Word}
    (hc : (s.port p).cmd = some c) (hw : c.words = w :: w' :: rest) :
    moveWordOut p s = s.setPort p { s.port p with
      burstAttn := false, readData := w, cmd := some { c with words := w' :: rest } } := by
  simp only [moveWordOut, hc, hw]
  cases p <;> simp_all [updCmd, State.updPort, State.setPort, State.port, PerPort.get, PerPort.set]

theorem moveWordOut_last {p : PortId} {s : State} {c : Progress} {w : Word}
    (hc : (s.port p).cmd = some c) (hw : c.words = [w]) :
    moveWordOut p s = recordRead p c.op (s.setPort p { s.port p with
      dreq := false, burstAttn := false, readData := w, cmd := some { c with words := [] } }) := by
  simp only [moveWordOut, hc, hw]
  cases p <;> simp_all [updCmd, State.updPort, State.setPort, State.port, PerPort.get, PerPort.set]

/-! ## The phase of a table command -/

theorem itemsLeft_or_waiting_iff (s : State) (c : Progress) :
    (itemsLeft s || c.clearWaiting) = true ↔ awaitsItems c s := by
  simp only [itemsLeft, awaitsItems, Bool.or_eq_true, List.any_eq_true, beq_iff_eq]

theorem endTablePhase_waits {f : FaultCode} {s : State} {c : Progress}
    (hc : (s.port .a).cmd = some c) (h : awaitsItems c s) :
    endTablePhase f s = s.setPort .a (waitingPort (s.port .a) c f) := by
  have hl := (itemsLeft_or_waiting_iff s c).2 h
  have e : ∀ f', itemsLeft (s.updPort .a f') = itemsLeft s := fun _ => rfl
  simp only [endTablePhase, finishTable, port_updPort_same, hc, Option.map_some, e]
  rw [if_neg (by intro h2; simp_all)]
  simp [State.updPort, hc, waitingPort]

theorem endTablePhase_completes {f : FaultCode} {s : State} {c : Progress}
    (hc : (s.port .a).cmd = some c) (ht : isTableCommand c.op = true) (h : ¬ awaitsItems c s) :
    endTablePhase f s = s.setPort .a (completedPort (s.port .a)
      (tableOutputs { c with ended := f, words := [] }) f) := by
  rw [← itemsLeft_or_waiting_iff] at h
  have e : ∀ f', itemsLeft (s.updPort .a f') = itemsLeft s := fun _ => rfl
  simp only [endTablePhase, finishTable, port_updPort_same, hc, Option.map_some, e]
  rw [if_pos (by simpa [ht] using h)]
  rfl

/-- A record of Port A's table command stands. -/
theorem recordStands_eq {s : State} {c : Progress} (hc : (s.port .a).cmd = some c)
    (ht : isTableCommand c.op = true) (hi : ∃ i ∈ s.stc.queue, i.owner = .inProgress) :
    recordStands s =
      s.setPort .a (if c.moved + 1 < c.total then
          { s.port .a with
            cmd := some (recordCounted c (s.port .a).burst.toNat)
            dreq := decide (s.stc.queue.length < 16)
            burstAttn := decide (s.stc.queue.length < 16) &&
              (recordCounted c (s.port .a).burst.toNat).burstPos == 0 }
        else waitingPort (s.port .a) (recordCounted c (s.port .a).burst.toNat) .none) := by
  have hcc : ((countRecord .a s).port .a).cmd =
      some (recordCounted c (s.port .a).burst.toNat) := by
    simp [countRecord, updCmd, hc, recordCounted]
  have ht' : isTableCommand (recordCounted c (s.port .a).burst.toNat).op = true := ht
  simp only [recordStands]
  rw [hcc]; dsimp only
  by_cases h : c.moved + 1 < c.total
  · rw [if_neg (by simpa [recordCounted] using h), openRecord_eq hcc, withholds_table ht', if_pos h,
      Bool.not_not]
    simp only [countRecord, updCmd, State.updPort, port_setPort_same, hc]
    rfl
  · rw [if_pos (by simpa [recordCounted] using h), if_neg h, endTablePhase_waits hcc (by
      obtain ⟨i, hi, ho⟩ := hi
      exact Or.inl ⟨i, List.mem_append_left _ hi, ho⟩)]
    simp only [countRecord, updCmd, State.updPort, port_setPort_same, hc]
    rfl

end Sys2Proof.Machine
end

