-- ==== Sys2Proof/WellFormed.lean ====
section
/-! DEFINITION. Which terms of `Instr` are rows of the table. -/
namespace Sys2Proof

/-- The soft reset field of a CONTROL byte (R194). -/
def softResetBit (v : Byte) : Bool := v.getLsbD 0

/-- A well-formed command: an UNKNOWN_COMMAND has a code that names no command (R170), a
PORT_SOFT_RESET writes soft reset 1, and the two CONTROL rows that name soft reset 0 write 0 (R178). -/
def Instr.wf : Instr → Bool
  | .unknownCommand _ code => (commandOfCode code).isNone
  | .portSoftReset _ v => softResetBit v
  | .softResetRelease _ v => !softResetBit v
  | .commandAttentionEnable _ v => !softResetBit v
  | .loadCandidates _ | .removeCandidates _ | .setWindow _ | .clearTable _ | .setGrid _
  | .setSnap _ | .setRest _ | .resetChannel _ | .readCursor _ | .armFigure _ | .cancelFigure _
  | .releaseFigure _ | .clearStall _ | .readPicks _ | .flushPicks _ | .setPickThreshold _
  | .setStation _ | .clearLink _ | .setView _ | .setStyle _ | .fetchOverlay _ | .readEvents _
  | .clearEvents _ | .setEventMask _ | .setBurst _ | .identify _ => true
  | .dataWrite _ _ | .dataRead _ | .statusRead _ | .attentionMode _ _ | .parameterWrite _ _ _
  | .deviceReset | .endOfInitialization | .fsync | .byteArrival _ _ | .gapTimerExpiry
  | .dataPhaseTimeout _ | .restTimerExpiry _ | .pulseEnd _ | .searchCompletion _ | .batchStart
  | .batchCompletion | .buildCompletion | .searchStart _ | .reSearch _ | .reportTake _
  | .frameOffer => true

end Sys2Proof
end

