-- ==== Sys2Proof/Laws/Step.lean ====
section
/-! SUPPORT. One step, said once for every command: its row's own effect, and how a property that the
parts of an event keep is kept by a step. -/
namespace Sys2Proof.Machine

/-- The effect of a row's event, between the starts that were due and the attention outputs. The rows
that are not events of this form have none here. -/
def bodyOf : Instr → State → State
  | .loadCandidates p => issue p .loadCandidates fun i t => startDataIn p .loadCandidates i i.records t
  | .removeCandidates p => issue p .removeCandidates fun i t => startDataIn p .removeCandidates i i.records t
  | .setWindow p => issue p .setWindow fun i t => startDataIn p .setWindow i 1 t
  | .clearTable p => issue p .clearTable fun i t => acceptClear p i t
  | .setGrid p => issue p .setGrid fun i t => startDataIn p .setGrid i 1 t
  | .setSnap p => issue p .setSnap fun i t => startDataIn p .setSnap i 1 t
  | .setRest p => issue p .setRest fun i t => acceptRest p i t
  | .resetChannel p => issue p .resetChannel fun i t => withChannel i (acceptResetChannel p) t
  | .readCursor p => issue p .readCursor fun i t =>
      withChannel i (fun c u => startDataOut p .readCursor i 1 (u.chan c).cursorWords u) t
  | .armFigure p => issue p .armFigure fun i t => withChannel i (acceptArm p i) t
  | .cancelFigure p => issue p .cancelFigure fun i t => withChannel i (acceptCancel p) t
  | .releaseFigure p => issue p .releaseFigure fun i t => withChannel i (acceptRelease p i) t
  | .clearStall p => issue p .clearStall fun i t => withChannel i (acceptClearStall p) t
  | .readPicks p => issue p .readPicks fun i t => acceptReadPicks p i t
  | .flushPicks p => issue p .flushPicks fun _ t => acceptFlush p t
  | .setPickThreshold p => issue p .setPickThreshold fun i t => acceptThreshold p i t
  | .setStation p => issue p .setStation fun i t => withChannel i (acceptStation p i) t
  | .clearLink p => issue p .clearLink fun _ t => acceptClearLink p t
  | .setView p => issue p .setView fun i t => startDataIn p .setView i 1 t
  | .setStyle p => issue p .setStyle fun i t =>
      complete p .zero .none { t with overlay := { t.overlay with style := styleOf i } }
  | .fetchOverlay p => issue p .fetchOverlay fun i t => acceptFetch p i t
  | .readEvents p => issue p .readEvents fun _ t =>
      complete p (eventOutputs (t.port p).latched (rawConditions t (t.port p))) .none t
  | .clearEvents p => issue p .clearEvents fun i t => acceptClearEvents p i t
  | .setEventMask p => issue p .setEventMask fun i t =>
      complete p .zero .none (t.updPort p fun q => { q with mask := i.events })
  | .setBurst p => issue p .setBurst fun i t =>
      complete p .zero .none (t.updPort p fun q => { q with burst := BitVec.ofNat 6 i.p0.toNat })
  | .identify p => issue p .identify fun i t => startDataOut p .identify i 1 (identityWords p) t
  | .unknownCommand p _ => issueUnknown p
  | .dataWrite p w => fun t =>
      if (t.port p).state = .dataIn ∧ (t.port p).dreq = true then moveWordIn p w t else collide p t
  | .dataRead p => fun t =>
      if (t.port p).state = .dataOut ∧ (t.port p).dreq = true then moveWordOut p t
      else (collide p t).updPort p fun q => { q with readData := 0 }
  | .statusRead p => fun t => t.updPort p fun q =>
      { q with readData := wordOf (statusByte q), done := false }
  | .portSoftReset p v | .softResetRelease p v | .commandAttentionEnable p v | .attentionMode p v =>
      writeControl p v
  | .parameterWrite p pos v => fun t =>
      if (t.port p).state = .ready then
        t.updPort p fun q => { q with window := storePosition pos v q.window }
      else collide p t
  | .endOfInitialization => fun t => if t.stc.access = .initializing then endStartUp t else t
  | .fsync => frameSync
  | .byteArrival b stop => fun t => driveHold (arrive b stop t)
  | .gapTimerExpiry => expireGap
  | .dataPhaseTimeout p => fun t => if (t.port p).dreq then timeOut p t else t
  | .restTimerExpiry c => expireRest c
  | .pulseEnd p => fun t => t.updPort p endPulse
  | .searchCompletion c => completeSearch c
  | .batchCompletion => fun t => if t.stc.access = .applying then completeBatch t else t
  | .buildCompletion => completeBuild
  | .reSearch c => fun t =>
      if reSearchDue (t.chan c) then beginSearch c (.research (t.chan c).raw) t else t
  | .reportTake c => takeReport c
  | .frameOffer => fun t => driveHold (offerFrame t)
  | .deviceReset | .batchStart | .searchStart _ => id

/-- A row of the table other than the starts and device reset is one event. -/
theorem exec_eq_event {i : Instr} (s : State) (hw : i.wf = true) (hr : i ≠ .deviceReset)
    (hb : i ≠ .batchStart) (hs : ∀ c, i ≠ .searchStart c) : exec i s = event (bodyOf i) s := by
  cases i
  case unknownCommand p code =>
    have h : commandOfCode code = none := by simpa [Instr.wf] using hw
    simp only [exec, execUnknownCommand, h]; rfl
  case deviceReset => exact absurd rfl hr
  case batchStart => exact absurd rfl hb
  case searchStart c => exact absurd rfl (hs c)
  all_goals rfl

/-- What a row answers when it answers a next state. -/
theorem exec_next {i : Instr} {s t : State} (h : exec i s = .next t) :
    t = driveAttention (settle s) (bodyOf i (settle s)) ∨
    t = { State.reset with pending := s.pending } ∨
    t = driveAttention s (startBatch s) ∨ ∃ c, t = startSearch c s := by
  cases i
  case unknownCommand p code =>
    have h' : execUnknownCommand p code s = .next t := h
    unfold execUnknownCommand at h'
    split at h'
    · cases h'
    · cases h'; exact Or.inl rfl
  case deviceReset => cases h; exact Or.inr (Or.inl rfl)
  case batchStart => cases h; exact Or.inr (Or.inr (Or.inl rfl))
  case searchStart c => cases h; exact Or.inr (Or.inr (Or.inr ⟨c, rfl⟩))
  all_goals cases h; exact Or.inl rfl

/-- A property of states is kept by the parts of a step: by the change of the queue, by the starts, by
the attention outputs, and by the effect of every row where no start is due. -/
structure KeptByParts (P : State → Prop) : Prop where
  queue : ∀ s l, P s → P { s with pending := l }
  attention : ∀ old s, P s → P (driveAttention old s)
  search : ∀ c s, P s → P (startSearch c s)
  batch : ∀ s, P s → P (startBatch s)
  reset : ∀ l, P { State.reset with pending := l }
  body : ∀ i s, NothingDue s → P s → P (bodyOf i s)

theorem KeptByParts.settle {P : State → Prop} (k : KeptByParts P) {s : State} (h : P s) :
    P (settle s) := by
  have h1 := k.search .c1 _ (k.search .c0 s h)
  unfold Machine.settle
  dsimp only
  split
  · exact k.attention _ _ (k.batch _ h1)
  · exact h1

/-- A property that the parts of a step keep is kept by every step. -/
theorem KeptByParts.step {P : State → Prop} (k : KeptByParts P) {s t : State}
    (h : Machine.step s = .next t) (hs : P s) : P t := by
  unfold Machine.step at h
  split at h
  · cases h; exact hs
  · next c rest _ =>
    have hr := k.queue s rest hs
    rcases exec_next h with rfl | rfl | rfl | ⟨c, rfl⟩
    · exact k.attention _ _ (k.body _ _ (nothingDue_settle _) (k.settle hr))
    · exact k.reset _
    · exact k.attention _ _ (k.batch _ hr)
    · exact k.search _ _ hr

/-- The issue of a command, by what becomes of it. -/
theorem issue_keeps {P : State → Prop} {p : PortId} {op : Command}
    {body : ParamBlock → State → State} {s : State} (hs : P s)
    (hcollide : ∀ s, P s → P (collide p s))
    (hrefuse : ∀ f s, (s.port p).state = .ready → P s → P (refuse p f (accept p s)))
    (hbody : (s.port p).state = .ready → inRole op p = true →
      paramsOk op (s.port p).window = true → P (body (s.port p).window (accept p s))) :
    P (issue p op body s) := by
  unfold issue
  split
  · exact hcollide s hs
  · next h =>
    have h' : (s.port p).state = .ready := by simpa using h
    split
    · exact hrefuse _ _ h' hs
    · next hr =>
      split
      · exact hrefuse _ _ h' hs
      · next hp => exact hbody h' (by simpa using hr) (by simpa using hp)

/-- What the issue of a command leaves, where its body leaves it. -/
theorem issue_field {α : Type} (g : State → α) {p : PortId} {op : Command}
    {body : ParamBlock → State → State} {s : State}
    (hg : ∀ (s : State) (l : PerPort PortState), g { s with ports := l } = g s)
    (hb : ∀ w t, g (body w t) = g t) : g (issue p op body s) = g s := by
  have hc : ∀ s, g (collide p s) = g s := fun s => hg s _
  have ha : ∀ s, g (accept p s) = g s := fun s => hg s _
  have hr : ∀ f s, g (refuse p f s) = g s := fun f s => hg s _
  unfold issue
  split; · exact hc s
  split; · rw [hr, ha]
  split; · rw [hr, ha]
  rw [hb, ha]

/-- What a body that acts on the named channel leaves. -/
theorem withChannel_field {α : Type} (g : State → α) (i : ParamBlock) (b : Chan → State → State)
    (s : State) (h : ∀ c t, g (b c t) = g t) : g (withChannel i b s) = g s := by
  unfold withChannel
  split
  · exact h _ _
  · rfl

end Sys2Proof.Machine
end

