-- ==== Sys2Proof/Tests/Slice0.lean ====
section
/-! SUPPORT. The model's own tests: well-formed commands, the guide's worked examples, and one or two
steps of every command on small states. -/
set_option Elab.async false

namespace Sys2Proof.Machine.Tests

/-! ## Well-formed commands -/

theorem test_wf_unknown_code : (Instr.unknownCommand .a 0x0F).wf = true := by decide
theorem test_wf_refuses_known_code : (Instr.unknownCommand .a 0x10).wf = false := by decide
theorem test_wf_refuses_soft_reset_of_zero : (Instr.portSoftReset .b 0x06).wf = false := by decide
theorem test_wf_refuses_release_with_one : (Instr.softResetRelease .a 0x01).wf = false := by decide
theorem test_wf_refuses_enable_with_reset : (Instr.commandAttentionEnable .a 0x03).wf = false := by decide
theorem test_no_row_has_bits : decodeTableWord 8 0x10 = none := by decide
theorem test_fetch_word_spells_none : State.reset.withFetchWord 8 0x10 = State.reset := by decide

/-! ## Small states -/

/-- The part after start-up: both ports READY, the table OPEN. -/
def up : State := endStartUp .reset

/-- The window of a port holds these values. -/
def withWindow (p : PortId) (w : ParamBlock) (s : State) : State :=
  s.updPort p fun q => { q with window := w }

/-- A port is in a data phase with DREQ set. -/
def inPhase (p : PortId) (st : PortMode) (c : Progress) (s : State) : State :=
  s.updPort p fun q => { q with state := st, dreq := true, cmd := some c }

/-- The next state of an outcome, if it is one. -/
def nextOf (o : Host.Outcome State Fault Refusal) : Option State :=
  match o with
  | .next t => some t
  | .fault _ | .refused _ => none

/-- What the next step answers with this command in the queue, if it answers a next state. -/
def after (i : Instr) (s : State) : Option State := nextOf (step { s with pending := [i] })

/-- What a command on a port leaves of its port: state, fault code, DONE, and the window. -/
def ended (p : PortId) (t : State) : PortMode × FaultCode × Bool × ParamBlock :=
  ((t.port p).state, (t.port p).fault, (t.port p).done, (t.port p).window)

/-- What the acceptance of a command with a data phase leaves: state, DREQ, and the records to move. -/
def opened (p : PortId) (t : State) : PortMode × Bool × Option Nat :=
  ((t.port p).state, (t.port p).dreq, (t.port p).cmd.map Progress.total)

/-- A drawing point from two numbers. -/
def pt (x y : Int) : Point := ⟨BitVec.ofInt 32 x, BitVec.ofInt 32 y⟩

/-- A tablet point from two numbers. -/
def tp (x y : Nat) : TabletPoint := ⟨BitVec.ofNat 15 x, BitVec.ofNat 15 y⟩

/-- A rectangular window from four numbers. -/
def rect (x0 y0 x1 y1 : Int) : Window :=
  .rect (BitVec.ofInt 32 x0) (BitVec.ofInt 32 y0) (BitVec.ofInt 32 x1) (BitVec.ofInt 32 y1)

/-- Channel 0 is changed. -/
def with0 (f : Channel → Channel) (s : State) : State := s.updChan .c0 f

/-- The events latched at Port A that are latched in none before. -/
def latchedAt (p : PortId) (t : State) : EventSet := (t.port p).latched

/-! ## The guide's examples: radii, rounding and the ranking of candidates -/

def viewOf (n shift : Nat) : View :=
  { ox := 0, oy := 0, n := BitVec.ofNat 16 n, shift := BitVec.ofNat 4 shift, gen := 0 }

theorem test_radii :
    (convertRadius (viewOf 1 0) 40, convertRadius (viewOf 1 0) (releaseRadius 40)) = (40, 60) ∧
    (convertRadius (viewOf 5 1) 40, convertRadius (viewOf 5 1) (releaseRadius 40)) = (100, 150) ∧
    (convertRadius (viewOf 3 2) 40, convertRadius (viewOf 3 2) (releaseRadius 40)) = (30, 45) ∧
    (convertRadius (viewOf 1 4) 5, convertRadius (viewOf 1 4) (releaseRadius 5)) = (1, 1) ∧
    (convertRadius (viewOf 1 15) 1023, releaseRadius 1023) = (1, 1534) ∧
    convertRadius (viewOf 65535 0) 1023 = 67042305 ∧
    convertRadius (viewOf 65535 0) 1534 = 100530690 := by decide +kernel

theorem test_grid_rounding :
    ([19, 20, 39, 0, -1, -20, -21].map fun x : Int =>
      (roundAxis 10 20 (BitVec.ofInt 32 x)).toInt) = [10, 30, 30, 10, -10, -10, -30] := by
  decide +kernel

theorem test_grid_rounding_at_the_end :
    (roundAxis 0 16777216 (BitVec.ofInt 32 2147483647)).toInt = 2130706432 ∧
    (roundAxis 5 16777216 (BitVec.ofInt 32 (-2147483648))).toInt = -2147483643 := by
  decide +kernel

/-- The entries of the example "Resolving a target". -/
def exampleTable : List Entry :=
  [{ handle := 7, kind := .endpoint, cls := 1, layer := 1, seats := ⟨true, false⟩, point := pt 500 500 },
   { handle := 3, kind := .midpoint, cls := 1, layer := 1, seats := ⟨true, false⟩, point := pt 530 525 },
   { handle := 12, kind := .center, cls := 2, layer := 1, seats := ⟨true, false⟩, point := pt 560 470 },
   { handle := 2, kind := .node, cls := 1, layer := 5, seats := ⟨true, false⟩, point := pt 545 515 }]

def exampleInputs (x y : Int) : Inputs where
  target := pt x y
  rc := 40
  rr := 60
  gen := 0
  kinds := 63
  layers := 0xFFDF
  gridSnap := false
  ortho := false
  grid := .absent
  orthoRef := none
  prev := some ({ handle := 7, kind := .endpoint, cls := 1 }, pt 500 500)

def exampleController (table : List Entry) : TableController :=
  { TableController.reset with access := .opened, table := table, windows := ⟨rect 0 0 1000 1000, .none⟩ }

theorem test_resolving_a_target :
    (resolve .c0 (exampleInputs 540 520) (exampleController exampleTable)).hit.map Hit.handle = some 7 ∧
    (resolve .c0 (exampleInputs 560 500) (exampleController exampleTable)).snapped = pt 500 500 ∧
    (resolve .c0 (exampleInputs 561 500) (exampleController exampleTable)).hit.map Hit.handle = some 3 ∧
    (resolve .c0 (exampleInputs 561 500) (exampleController exampleTable)).zone = .interior := by
  decide +kernel

theorem test_better_class_takes_the_hit :
    (resolve .c0 (exampleInputs 540 520) (exampleController (exampleTable ++
      [{ handle := 20, kind := .intersection, cls := 0, layer := 1, seats := ⟨true, false⟩,
         point := pt 575 540 }]))).hit.map Hit.handle = some 20 := by
  decide +kernel

theorem test_constraint_and_grid :
    let r := resolveFree { exampleInputs 1503 870 with
      ortho := true, gridSnap := true, orthoRef := some (pt 1210 805)
      grid := { present := true, gx := 0, gy := 0, px := 25, py := 25 } } .interior
    r.snapped = pt 1500 800 ∧ r.basis = .grid ∧ r.orthoApplied = true ∧ r.hit = none := by
  decide +kernel

/-! ## The guide's examples: a batch -/

def entryOf (h : Nat) (k : SnapKind) (p : Point) (cls layer : Nat) (s0 s1 : Bool) : Entry :=
  { handle := BitVec.ofNat 16 h, kind := k, cls := BitVec.ofNat 2 cls, layer := BitVec.ofNat 4 layer
    seats := ⟨s0, s1⟩, point := p }

def item (k : EditKind) : EditItem := { kind := k, owner := .inProgress }

/-- The work of the example "A batch traced". -/
def tracedWork : BatchWork where
  table := [entryOf 7 .endpoint (pt 100 100) 0 1 true false,
            entryOf 7 .endpoint (pt 900 100) 0 1 true true,
            entryOf 9 .center (pt 600 600) 1 2 true true]
  windows := ⟨rect 0 0 1000 1000, rect 500 0 2000 1000⟩
  reserved := 3

def tracedItems : List EditItem :=
  [item (.insert (entryOf 12 .midpoint (pt 700 300) 2 1 true true)),
   item (.insert (entryOf 9 .center (pt 600 600) 0 3 false true)),
   item (.insert (entryOf 15 .node (pt 1500 900) 0 0 true false))]

theorem test_batch_traced :
    applyItems tracedItems tracedWork =
      ({ tracedWork with
          reserved := 0
          table := [entryOf 7 .endpoint (pt 100 100) 0 1 true false,
            entryOf 7 .endpoint (pt 900 100) 0 1 true true,
            entryOf 9 .center (pt 600 600) 0 3 true true,
            entryOf 12 .midpoint (pt 700 300) 2 1 true true] },
       { TableCounts.zero with added := 1, merged := 1, outside := 1 }) := by
  decide +kernel

theorem test_window_move_traced :
    let r := applyItem (.evict .c0 (rect 200 0 800 800)) (applyItems tracedItems tracedWork).1
    r.1.table.map Entry.seats = [⟨false, true⟩, ⟨true, true⟩, ⟨true, true⟩] ∧
    r.2 = { TableCounts.zero with cleared := 2, freed := 1 } := by
  decide +kernel

theorem test_remove_any_and_clear :
    (applyItem (.remove 7 none) tracedWork).2.removed = 2 ∧
    (applyItem (.remove 9 (some .node)) tracedWork).2.removed = 0 ∧
    (applyItem .clear tracedWork).2.freed = 3 := by
  decide +kernel

/-! ## The guide's examples: the link -/

theorem test_checksum_motion :
    goodFrame [0x01, 0x01, 0xE8, 0x03, 0xD1, 0x07, 0x01, 0x3A] =
      some (0x01, .motion (tp 1000 2001) 1) := by decide +kernel

theorem test_checksum_prox_out : goodFrame [0x02, 0x03, 0xFB] = some (0x02, .proxOut) := by
  decide +kernel

theorem test_frame_out_of_bounds :
    goodFrame [0x01, 0x01, 0x00, 0x80, 0x00, 0x00, 0x00, 0x7E] = none ∧
    goodFrame [0x01, 0x02, 0x00, 0x00, 0x00, 0x00, 0x08, 0xF5] = none ∧
    goodFrame [0x01, 0x03, 0xFB] = none := by decide +kernel

theorem test_station_masks :
    stationMatches { address := 1, mask := 0 } 0x01 = true ∧
    stationMatches { address := 1, mask := 0 } 0x81 = false ∧
    stationMatches { address := 4, mask := 3 } 0x07 = true ∧
    stationMatches { address := 4, mask := 3 } 0x08 = false := by decide +kernel

/-! ## Commands: one step each -/

theorem test_load_candidates :
    (after (.loadCandidates .a) up).map (opened .a) = some (.dataIn, true, some 256) ∧
    (after (.loadCandidates .b) up).map (ended .b) = some (.ready, .role, true, .zero) := by
  decide +kernel

theorem test_remove_candidates :
    (after (.removeCandidates .a) (withWindow .a ⟨0, 0, 0, 0, 3⟩ up)).map (opened .a) =
      some (.dataIn, true, some 3) := by decide +kernel

theorem test_set_window :
    (after (.setWindow .a) (withWindow .a ⟨1, 0, 0, 0, 9⟩ up)).map (opened .a) =
      some (.dataIn, true, some 1) ∧
    (after (.setWindow .a) (withWindow .a ⟨2, 0, 0, 0, 0⟩ up)).map (ended .a) =
      some (.ready, .param, true, .zero) := by decide +kernel

theorem test_clear_table :
    (after (.clearTable .a) up).map (fun t => (t.stc.queue, t.stc.access, (t.port .a).state)) =
      some ([item .clear], .draining, .busy) := by decide +kernel

theorem test_set_grid :
    (after (.setGrid .a) up).map (opened .a) = some (.dataIn, true, some 1) := by decide +kernel

theorem test_set_snap :
    (after (.setSnap .a) (withWindow .a ⟨1, 0, 0, 0, 0⟩ up)).map (opened .a) =
      some (.dataIn, true, some 1) := by decide +kernel

theorem test_set_rest :
    (after (.setRest .a) (with0 (fun ch => { ch with timer := .running 600 })
      (withWindow .a ⟨5, 0, 0, 0, 0⟩ up))).map (fun t => (t.rest, (t.chan .c0).timer, (t.chan .c1).timer)) =
      some (5, .running 20, .stopped) := by decide +kernel

theorem test_reset_channel :
    (after (.resetChannel .a) (with0 (fun ch => { ch with
        state := .tracking, stage := .banding, queue := [⟨.proxOut, true⟩],
        search := .waiting (.research ⟨0, 0⟩) false }) up)).map
      (fun t => (ended .a t, t.chan .c0, latchedAt .b t)) =
      some ((.ready, .none, true, ⟨1, 2, 0, 0, 0⟩), .reset, 0x000022) := by decide +kernel

theorem test_read_cursor :
    (after (.readCursor .b) (withWindow .b ⟨1, 0, 0, 0, 0⟩ up)).map
      (fun t => (opened .b t, (t.port .b).cmd.map fun c => c.words.length)) =
      some ((.dataOut, true, some 1), some 15) := by decide +kernel

theorem test_arm_figure :
    (after (.armFigure .a) (withWindow .a ⟨0, 5, 6, 1, 0⟩ up)).map
      (fun t => (ended .a t, (t.chan .c0).stage, (t.chan .c0).target, (t.chan .c0).action)) =
      some ((.ready, .none, true, .zero), .armed, some 6, some .hold) := by decide +kernel

theorem test_arm_figure_refused :
    (after (.armFigure .a) (withWindow .a ⟨0, 5, 17, 1, 0⟩ up)).map (ended .a) =
      some (.ready, .param, true, .zero) := by decide +kernel

/-- A polyline of channel 0 with two anchors. -/
def bandingPolyline (ch : Channel) : Channel :=
  { ch with stage := .banding, template := .polyline, target := some 6, action := some .hold,
            anchors := [pt 100 100, pt 260 120] }

theorem test_cancel_figure :
    (after (.cancelFigure .a) (with0 bandingPolyline up)).map
      (fun t => (ended .a t, (t.chan .c0).stage, (t.chan .c0).anchors, t.picks.records.map PickRecord.index)) =
      some ((.ready, .none, true, ⟨2, 1, 0, 0, 0⟩), .armed, [], [2]) := by decide +kernel

theorem test_release_figure :
    (after (.releaseFigure .a) (with0 (fun ch => { bandingPolyline ch with stage := .hold }) up)).map
      (fun t => (ended .a t, (t.chan .c0).stage, (t.chan .c0).anchors)) =
      some ((.ready, .none, true, ⟨2, 0, 0, 0, 0⟩), .armed, []) ∧
    (after (.releaseFigure .a) up).map (ended .a) = some (.ready, .stage, true, .zero) := by
  decide +kernel

theorem test_clear_stall :
    (after (.clearStall .a) (with0 (fun ch => { bandingPolyline ch with
        stage := .stalled, ret := some .banding, saved := some .pick, anchors := [pt 100 100]
        cursor := { CursorRecord.reset with snapped := pt 260 120 } }) up)).map
      (fun t => (ended .a t, (t.chan .c0).anchors, t.picks.records.map PickRecord.kind)) =
      some ((.ready, .none, true, ⟨2, 1, 1, 0, 2⟩), [pt 100 100, pt 260 120], [.anchor]) := by
  decide +kernel

/-- A POINT record of channel 0. -/
def pointRecord : PickRecord :=
  { chan := .c0, kind := .point, template := .none, index := 0, snapped := pt 7 8, raw := tp 7 8
    basis := .free, hit := none, frameNo := 0, gen := 0 }

/-- The Pick Queue holds `n` records. -/
def holdingPicks (n : Nat) (s : State) : State :=
  { s with pickRaw := true, picks := { s.picks with records := List.replicate n pointRecord } }

theorem test_read_picks :
    (after (.readPicks .a) up).map (ended .a) = some (.ready, .none, true, .zero) ∧
    (after (.readPicks .a) (holdingPicks 1 up)).map (opened .a) =
      some (.dataOut, true, some 256) := by decide +kernel

theorem test_flush_picks :
    (after (.flushPicks .a) (holdingPicks 3 up)).map
      (fun t => (ended .a t, t.picks.records, t.pickRaw)) =
      some ((.ready, .none, true, ⟨3, 0, 0, 0, 0⟩), [], false) := by decide +kernel

theorem test_set_pick_threshold :
    (after (.setPickThreshold .a) (withWindow .a ⟨31, 0, 0, 0, 0⟩ up)).map (fun t => t.picks.threshold) =
      some 31 ∧
    (after (.setPickThreshold .a) (withWindow .a ⟨32, 0, 0, 0, 0⟩ up)).map (ended .a) =
      some (.ready, .param, true, .zero) := by decide +kernel

theorem test_set_station :
    (after (.setStation .a) (withWindow .a ⟨1, 127, 3, 0, 0⟩ up)).map (fun t => t.link.stations) =
      some ⟨{ address := 1, mask := 0 }, { address := 127, mask := 3 }⟩ := by decide +kernel

theorem test_clear_link :
    (after (.clearLink .a) { up with link := { up.link with
        state := .overrun, hold := true, assembler := .inFrame [1] } }).map
      (fun t => (ended .a t, t.link)) =
      some ((.ready, .none, true, ⟨2, 0, 0, 0, 0⟩), { Link.reset with state := .run }) := by
  decide +kernel

theorem test_set_view :
    (after (.setView .b) up).map (opened .b) = some (.dataIn, true, some 1) := by decide +kernel

theorem test_set_style :
    (after (.setStyle .b) (withWindow .b ⟨1, 0, 0, 0, 0⟩ up)).map (fun t => t.overlay.style) =
      some { form := .arms, ticks := false, band := .solid } := by decide +kernel

/-- A frame of two strokes. -/
def smallFrame : Frame :=
  { number := 40, gen := 3, truncated := false, blank := ⟨false, true⟩
    strokes := [{ shape := .tick (pt 1 2), chan := .c1, live := false },
                { shape := .crosshair (pt (-1) 4) .arms, chan := .c0, live := true }] }

/-- The front buffer holds the small frame. -/
def withFront (s : State) : State :=
  { s with overlay := { s.overlay with bufX := .front smallFrame, bufY := .ready smallFrame } }

theorem test_fetch_overlay :
    (after (.fetchOverlay .b) (withFront up)).map
      (fun t => (opened .b t, t.overlay.bufX, (t.port .b).cmd.map Progress.words)) =
      some ((.dataOut, true, some 3), .frontPinned smallFrame, some [40, 0x0203, 4]) ∧
    (after (.fetchOverlay .b) up).map (fun t => (t.port .b).cmd.map Progress.words) =
      some (some [0, 0, 8]) := by decide +kernel

theorem test_stroke_words :
    smallFrame.record 1 = [0x0017, 1, 0, 2, 0, 0, 0, 0, 0, 0, 0, 0, 0] ∧
    smallFrame.record 2 = [0x0061, 0xFFFF, 0xFFFF, 4, 0, 0, 0, 0, 0, 0, 0, 0, 0] := by
  decide +kernel

/-- Port A has these events latched and enabled. -/
def withEvents (latched mask : EventSet) (s : State) : State :=
  s.updPort .a fun q => { q with latched := latched, mask := mask }

theorem test_read_events :
    (after (.readEvents .a) (withEvents 0x810240 0 (holdingPicks 1 up))).map (ended .a) =
      some (.ready, .none, true, ⟨0x40, 0x02, 0x81, 1, 0⟩) := by decide +kernel

theorem test_clear_events :
    (after (.clearEvents .a) (withWindow .a ⟨0x40, 0, 0xFF, 0, 0⟩
        (withEvents 0x810240 0 (holdingPicks 1 up)))).map (fun t => (ended .a t, latchedAt .a t)) =
      some ((.ready, .none, true, ⟨0, 0x02, 0x01, 0, 0⟩), 0x010200) := by decide +kernel

theorem test_set_event_mask :
    (after (.setEventMask .b) (withWindow .b ⟨0x7F, 0x7F, 0xFF, 0, 0⟩ up)).map
      (fun t => (t.port .b).mask) = some 0xFF7F7F ∧
    (after (.setEventMask .b) (withWindow .b ⟨0x80, 0, 0, 0, 0⟩ up)).map (ended .b) =
      some (.ready, .param, true, .zero) := by decide +kernel

theorem test_set_burst :
    (after (.setBurst .a) (withWindow .a ⟨32, 0, 0, 0, 0⟩ up)).map (fun t => (t.port .a).burst) =
      some 32 ∧
    (after (.setBurst .a) (withWindow .a ⟨33, 0, 0, 0, 0⟩ up)).map (ended .a) =
      some (.ready, .param, true, .zero) := by decide +kernel

theorem test_identify :
    (after (.identify .b) up).map (fun t => (t.port .b).cmd.map fun c => c.words.take 10) =
      some (some [0x0420, 1, 1024, 16, 32, 4, 16, 48, 2, 2]) := by decide +kernel

theorem test_unknown_command :
    (after (.unknownCommand .a 0) up).map (ended .a) = some (.ready, .unknown, true, .zero) ∧
    (after (.unknownCommand .a 0x10) up).isNone = true := by decide +kernel

/-- A LOAD CANDIDATES of `n` records, six words of the first record in hand. -/
def loading (n : Nat) : Progress :=
  .start .loadCandidates .zero n [12, 0x0122, 3, 0x02BC, 0, 0x012C]

theorem test_data_write :
    (after (.dataWrite .a 0) (inPhase .a .dataIn (loading 2) up)).map
      (fun t => (opened .a t, t.stc.queue, t.stc.reserved)) =
      some ((.dataIn, true, some 2),
        [item (.insert (entryOf 12 .midpoint (pt 700 300) 2 1 true true))], 1) ∧
    (after (.dataWrite .a 0) up).map (fun t => (t.port .a).collide) = some true := by
  decide +kernel

theorem test_data_read :
    (after (.dataRead .a) (inPhase .a .dataOut (.start .identify .zero 1 [5, 6]) up)).map
      (fun t => ((t.port .a).readData, (t.port .a).cmd.map Progress.words)) = some (5, some [6]) ∧
    (after (.dataRead .a) (inPhase .a .dataOut (.start .identify .zero 1 [5]) up)).map (ended .a) =
      some (.ready, .none, true, .zero) := by decide +kernel

theorem test_status_read :
    (after (.statusRead .a) (up.updPort .a fun q => { q with done := true, fault := .role })).map
      (fun t => ((t.port .a).readData, (t.port .a).done)) = some (0x19, false) := by decide +kernel

theorem test_port_soft_reset :
    (after (.portSoftReset .a 0x05) (inPhase .a .dataIn (loading 2) up)).map
      (fun t => ((t.port .a).state, (t.port .a).cmd, (t.port .a).mode, (t.port .a).dreq)) =
      some (.resetHeld, none, .edge, false) := by decide +kernel

theorem test_soft_reset_release :
    (after (.softResetRelease .a 0) (up.updPort .a fun q => { q with state := .resetHeld })).map
      (fun t => (t.port .a).state) = some .ready := by decide +kernel

theorem test_command_attention_enable :
    (after (.commandAttentionEnable .a 0x02) (up.updPort .a fun q => { q with done := true })).map
      (fun t => ((t.port .a).attnEnable, (t.port .a).attn)) = some (true, .on) := by decide +kernel

theorem test_attention_mode :
    (after (.attentionMode .a 0x04) (withEvents 1 1 up)).map
      (fun t => ((t.port .a).mode, (t.port .a).attn)) = some (.edge, .on) := by decide +kernel

theorem test_parameter_write :
    (after (.parameterWrite .a .param2 9) up).map (fun t => (t.port .a).window) =
      some ⟨0, 0, 9, 0, 0⟩ ∧
    (after (.parameterWrite .a .param2 9) .reset).map (fun t => ((t.port .a).window, (t.port .a).collide)) =
      some (.zero, true) := by decide +kernel

theorem test_device_reset : after .deviceReset (holdingPicks 3 up) = some .reset := by decide +kernel

theorem test_end_of_initialization : after .endOfInitialization .reset = some up := by decide +kernel

theorem test_fsync :
    (after .fsync up).map (fun t => (t.overlay.bufX.state, t.overlay.frameNo, latchedAt .b t)) =
      some (.building, 1, 0x200000) := by decide +kernel

theorem test_byte_arrival :
    (after (.byteArrival 0x7E true) up).map (fun t => (t.link.state, t.link.assembler)) =
      some (.run, .inFrame []) ∧
    (after (.byteArrival 0xFB true) { up with link := { up.link with
        state := .run, assembler := .inFrame [2, 3] } }).map (fun t => t.link.holding) =
      some [{ chan := .c1, msg := .proxOut }] := by decide +kernel

theorem test_gap_timer_expiry :
    (after .gapTimerExpiry { up with link := { up.link with
        state := .run, assembler := .inFrame [2, 3] } }).map (fun t => (t.link.assembler, latchedAt .a t)) =
      some (.hunt, 0x080000) := by decide +kernel

theorem test_data_phase_timeout :
    (after (.dataPhaseTimeout .a) (inPhase .a .dataIn (loading 2) up)).map (ended .a) =
      some (.ready, .timeout, true, ⟨0, 0, 0, 0, 2⟩) := by decide +kernel

theorem test_rest_timer_expiry :
    (after (.restTimerExpiry .c0) (with0 (fun ch => { ch with
        state := .tracking, timer := .running 600 }) up)).map
      (fun t => ((t.chan .c0).state, (t.chan .c0).timer, latchedAt .a t)) =
      some (.resting, .stopped, 0x000020) := by decide +kernel

theorem test_pulse_end :
    (after (.pulseEnd .a) ((withEvents 1 1 up).updPort .a fun q => { q with
        mode := .edge, attn := .pulsing })).map (fun t => (t.port .a).attn) = some .on := by
  decide +kernel

/-- Channel 0 is TRACKING with a search in flight at a target, with one press. -/
def searching (x y : Int) (s : State) : State :=
  with0 (fun ch => { ch with
    state := .tracking, timer := .running 600, stage := .armed, template := .line, target := some 2
    action := some .once
    search := .searching (.report ⟨BitVec.ofInt 15 x, BitVec.ofInt 15 y⟩ [.pick]) .none
      { exampleInputs x y with prev := none } })
    { s with stc := { exampleController exampleTable with inFlight := 1 } }

theorem test_search_completion :
    (after (.searchCompletion .c0) (searching 505 510 up)).map
      (fun t => ((t.chan .c0).cursor.snapped, (t.chan .c0).stage, (t.chan .c0).anchors,
        t.stc.inFlight, latchedAt .a t)) =
      some (pt 500 500, .banding, [pt 500 500], 0, 0x010003) := by decide +kernel

/-- The table controller has an INSERT queued and its turn has come. -/
def draining (s : State) : State :=
  { s with stc := { s.stc with access := .draining, queue := tracedItems, reserved := 3 } }

theorem test_batch_start :
    (after .batchStart (draining up)).map
      (fun t => (t.stc.access, t.stc.queue, t.stc.batch)) =
      some (.applying, [], tracedItems) := by decide +kernel

/-- The traced batch is being applied; Port A's LOAD CANDIDATES waits BUSY. -/
def applying (s : State) : State :=
  (s.updPort .a fun q => { q with
    state := .busy, cmd := some { loading 3 with moved := 3, words := [] } }) |> fun t =>
  { t with stc := { t.stc with
    access := .applying, batch := tracedItems, reserved := 3, table := tracedWork.table
    windows := tracedWork.windows } }

theorem test_batch_completion :
    (after .batchCompletion (applying up)).map
      (fun t => (ended .a t, t.stc.table.length, t.stc.reserved, t.stc.access)) =
      some ((.ready, .none, true, ⟨1, 1, 1, 0, 0⟩), 4, 0, .opened) := by decide +kernel

/-- A snapshot of a channel that tracks with an open polyline. -/
def bandingSnapshot (n : Nat) : Snapshot :=
  let k : ChanSnapshot := { state := .tracking, snapped := pt 1 1, hitKind := none, stage := .banding
                            template := .polyline, target := some 16
                            anchors := List.replicate n (pt 0 0), ret := none }
  { number := 1, gen := 0, style := Overlay.reset.style, chans := ⟨k, k⟩ }

theorem test_build_completion :
    (after .buildCompletion { up with overlay := { up.overlay with
        bufX := .building (bandingSnapshot 12) } }).map
      (fun t => (t.overlay.bufX.readyFrame.map fun f => (f.strokes.length, f.truncated), latchedAt .a t)) =
      some (some (48, true), 0x400000) := by decide +kernel

theorem test_search_start :
    (after (.searchStart .c0) (with0 (fun ch => { ch with
        search := .waiting (.research (tp 3 4)) true, flag := true }) up)).map
      (fun t => (t.stc.inFlight, (t.chan .c0).flag, (t.chan .c0).search.code)) =
      some (1, false, 2) := by decide +kernel

theorem test_re_search :
    (after (.reSearch .c0) (with0 (fun ch => { ch with
        state := .tracking, raw := tp 3 4, flag := true }) up)).map (fun t => (t.chan .c0).search) =
      some (.waiting (.research (tp 3 4)) true) := by decide +kernel

theorem test_report_take :
    (after (.reportTake .c0) (with0 (fun ch => { ch with
        state := .tracking, raw := tp 1000 1000, queue := [⟨.motion (tp 1002 998) 0, false⟩] }) up)).map
      (fun t => ((t.chan .c0).queue, (t.chan .c0).raw, (t.chan .c0).search)) =
      some ([], tp 1000 1000, .quiet) ∧
    (after (.reportTake .c0) (with0 (fun ch => { ch with
        state := .tracking, raw := tp 1000 1000, queue := [⟨.motion (tp 1003 998) 5, true⟩] }) up)).map
      (fun t => ((t.chan .c0).buttons, (t.chan .c0).search)) =
      some (5, .waiting (.report (tp 1003 998) [.pick, .cancel]) true) := by decide +kernel

theorem test_frame_offer :
    (after .frameOffer { up with link := { up.link with
        state := .run, holding := [⟨.c0, .motion (tp 1 1) 0⟩, ⟨.c0, .proxOut⟩], hold := true } }).map
      (fun t => ((t.chan .c0).queue, t.link.holding, t.link.hold)) =
      some ([⟨.motion (tp 1 1) 0, false⟩], [⟨.c0, .proxOut⟩], false) := by decide +kernel

/-- Accesses by address: the upper eight lines are ignored by a byte write and read 0. -/
theorem test_access_by_address :
    writeRow .a 4 0xFF07 = .parameterWrite .a .count 7 ∧ writeRow .b 5 0x0042 = .fetchOverlay .b ∧
    writeRow .a 6 0x0005 = .portSoftReset .a 5 ∧ writeRow .a 6 0x0006 = .softResetRelease .a 6 ∧
    writeRow .a 7 0xFF07 = .dataWrite .a 0xFF07 := by decide

theorem test_reads_by_address :
    (nextOf (readAccess .a 2 (withWindow .a ⟨1, 2, 0x93, 4, 5⟩ up))).map (fun t => (t.port .a).readData) =
      some 0x0093 ∧
    (nextOf (readAccess .a 6 (up.updPort .a fun q => { q with fault := .stage }))).map
      (fun t => (t.port .a).readData) = some 6 ∧
    (nextOf (readAccess .a 4 .reset)).map (fun t => (t.port .a).readData) = some 0 := by decide +kernel

theorem test_empty_queue_idles : step up = .next up := rfl

end Sys2Proof.Machine.Tests
end

