-- ==== Sys2Proof/Tests/Witnesses.lean ====
section
/-! SUPPORT. For every statement with hypotheses, a state and operands that meet them, clause by clause,
at the boundary values of their ranges. -/
set_option Elab.async false

namespace Sys2Proof.Machine.Tests

/-! ## States that meet the hypotheses of the statements -/

theorem witness_StepRunsFrontCommand : up.pending = [] := rfl

theorem witness_StartsComeFirst :
    (Instr.fsync ≠ .deviceReset ∧ Instr.fsync ≠ .batchStart ∧ ∀ c, Instr.fsync ≠ .searchStart c) ∧
    NothingDue up ∧
    ((with0 (fun ch => { ch with search := .waiting (.research (tp 3 4)) true }) up).chan .c0).search =
      .waiting (.research (tp 3 4)) true ∧
    batchDue (draining up) = true :=
  ⟨⟨nofun, nofun, fun _ => nofun⟩, ⟨rfl, rfl, rfl⟩, rfl, rfl⟩

theorem witness_EveryCommandAnswers :
    commandOfCode 0x5E = none ∧ commandOfCode 0x5F ≠ none := by decide

/-- No event can arise in `up` but those of a command or the link. -/
theorem witness_EveryCommandAnswers_events :
    NothingDue up ∧ up.stc.access = .opened ∧ up.stc.queue = [] ∧ up.stc.inFlight = 0 ∧
    (∀ c, (up.chan c).search = .quiet ∧ (up.chan c).queue = [] ∧ (up.chan c).flag = false ∧
      (up.chan c).timer = .stopped) ∧
    up.overlay.bufX = .free ∧ up.overlay.bufY = .free ∧
    up.link.holding = [] ∧ up.link.hold = holdLevel up.link ∧ up.link.assembler = .hunt ∧
    ∀ p, (up.port p).dreq = false ∧ (up.port p).attn = .off :=
  ⟨⟨rfl, rfl, rfl⟩, rfl, rfl, rfl, fun c => by cases c <;> exact ⟨rfl, rfl, rfl, rfl⟩,
   rfl, rfl, rfl, rfl, rfl, fun p => by cases p <;> exact ⟨rfl, rfl⟩⟩

/-- A unit that waits ungranted starts no search, takes no report and begins no re-search; a batch is not
due while a search is in flight. -/
theorem witness_EveryCommandAnswers_waiting :
    let waiting := with0
      (fun ch => { ch with search := .waiting (.research (tp 3 4)) false, flag := true }) (draining up)
    let s := { waiting with stc := { waiting.stc with inFlight := 1 } }
    NothingDue s ∧ s.stc.access = .draining ∧ s.stc.queue ≠ [] ∧ s.stc.inFlight ≠ 0 ∧
      (s.chan .c0).search = .waiting (.research (tp 3 4)) false ∧
      (s.chan .c0).search ≠ .quiet ∧ (s.chan .c0).flag = true :=
  ⟨⟨rfl, rfl, rfl⟩, rfl, nofun, nofun, rfl, nofun, rfl⟩

theorem witness_CommandIssueIsTurnedAway :
    NothingDue .reset ∧ (State.reset.port .a).state ≠ .ready ∧
    NothingDue up ∧ (up.port .a).state = .ready ∧ (up.port .b).state = .ready ∧
    (0x14 : Byte) ∉ Command.all.map Command.code := by
  unfold NothingDue
  decide +kernel

theorem witness_BadParametersRefused :
    Ready .a ⟨2, 0, 0, 0, 0⟩ (withWindow .a ⟨2, 0, 0, 0, 0⟩ up) ∧ inRole .setWindow .a = true ∧
    badParameter .setWindow ⟨2, 0, 0, 0, 0⟩ := by
  unfold Ready NothingDue badParameter
  decide +kernel

/-- Each way of a parameter to be out of range, one beyond its bound: the common kinds. -/
theorem witness_bad_parameters_common :
    badParameter .setView ⟨1, 0, 0, 0, 0⟩ ∧ badParameter .setRest ⟨0, 1, 0, 0, 0⟩ ∧
    badParameter .setBurst ⟨1, 0, 1, 0, 0⟩ ∧ badParameter .setStyle ⟨0, 0, 0, 1, 0⟩ ∧
    badParameter .setBurst ⟨0, 0, 0, 0, 0⟩ ∧ badParameter .setBurst ⟨33, 0, 0, 0, 0⟩ ∧
    badParameter .setPickThreshold ⟨0, 0, 0, 0, 0⟩ ∧ badParameter .setPickThreshold ⟨32, 0, 0, 0, 0⟩ := by
  unfold badParameter
  refine ⟨?_, ?_, ?_, ?_, ?_, ?_, ?_, ?_⟩ <;> decide +kernel

/-- The remaining kinds of a parameter out of range, one beyond its bound. -/
theorem witness_bad_parameters_own :
    (badParameter .setStation ⟨0, 0, 0, 0, 0⟩ ∧ badParameter .setStation ⟨0, 128, 0, 0, 0⟩ ∧
      badParameter .setStation ⟨0, 1, 128, 0, 0⟩ ∧ badParameter .releaseFigure ⟨0, 2, 0, 0, 0⟩) ∧
    (badParameter .setStyle ⟨2, 0, 0, 0, 0⟩ ∧ badParameter .setStyle ⟨0, 2, 0, 0, 0⟩ ∧
      badParameter .setStyle ⟨0, 0, 2, 0, 0⟩ ∧ badParameter .clearEvents ⟨0x80, 0, 0, 0, 0⟩ ∧
      badParameter .setEventMask ⟨0, 0x80, 0, 0, 0⟩) ∧
    badParameter .armFigure ⟨0, 6, 0, 1, 0⟩ ∧ badParameter .armFigure ⟨0, 5, 1, 1, 0⟩ ∧
    badParameter .armFigure ⟨0, 5, 17, 1, 0⟩ ∧ badParameter .armFigure ⟨0, 1, 0, 0, 0⟩ ∧
    badParameter .armFigure ⟨0, 1, 0, 4, 0⟩ := by
  unfold badParameter
  refine ⟨⟨?_, ?_, ?_, ?_⟩, ⟨?_, ?_, ?_, ?_, ?_⟩, ?_, ?_, ?_, ?_, ?_⟩ <;> decide +kernel

theorem witness_WindowAccessesStoreAndShow :
    NothingDue up ∧ (up.port .a).state = .ready ∧ NothingDue .reset ∧
    (State.reset.port .a).state ≠ .ready := by
  unfold NothingDue
  decide +kernel

/-- A byte position and FAULT are read where no start is due, in READY and outside it. -/
theorem witness_reads_by_address :
    (0 : BitVec 3) ≠ 5 ∧ (4 : BitVec 3) ≠ 7 ∧ (6 : BitVec 3) ≠ 5 ∧
    faultsByCode.idxOf ((up.updPort .a fun q => { q with fault := .timeout }).port .a).fault = 7 := by
  decide +kernel

/-- A state with a data phase and what the statements about data phases ask of it. -/
def phaseHolds (p : PortId) (st : PortMode) (c : Progress) (s : State) : Prop :=
  NothingDue (inPhase p st c s) ∧ ((inPhase p st c s).port p).state = st ∧
  ((inPhase p st c s).port p).dreq = true ∧ ((inPhase p st c s).port p).cmd = some c

theorem witness_DataAccessMovesWordOrCollides :
    phaseHolds .a .dataIn (.start .loadCandidates .zero 1 [1, 2, 3, 4, 5]) up ∧
    5 + 1 < recordWords .loadCandidates ∧
    phaseHolds .b .dataOut (.start .identify .zero 1 [1, 2]) up ∧
    NothingDue up ∧ (up.port .a).state ≠ .dataIn ∧ (up.port .a).state ≠ .dataOut ∧
    ((inPhase .a .dataIn (loading 1) up).updPort .a fun q => { q with dreq := false }).port .a =
      { (inPhase .a .dataIn (loading 1) up).port .a with dreq := false } := by
  unfold phaseHolds NothingDue
  decide +kernel

theorem witness_SoftResetAbandonsCommand :
    (0x01 : Byte).getLsbD 0 = true ∧
    phaseHolds .a .dataIn (loading 1) up ∧ isTableCommand (loading 1).op = true ∧
    phaseHolds .b .dataOut (.start .fetchOverlay .zero 1 [1]) up := by
  unfold phaseHolds NothingDue
  decide +kernel

theorem witness_ControlWriteTakesFields :
    (NothingDue .reset ∧ (State.reset.port .a).state = .busy ∧ (State.reset.port .a).cmd = none) ∧
    ((up.updPort .a fun q => { q with state := .resetHeld }).port .a).state = .resetHeld ∧
    (0x01 : Byte).getLsbD 0 = true ∧ (0x06 : Byte).getLsbD 0 = false ∧
    (NothingDue up ∧ (up.port .a).state ≠ .resetHeld ∧ (up.port .a).state ≠ .busy) := by
  unfold NothingDue
  decide +kernel

theorem witness_AttentionFollowsGrounds :
    (∀ g, ground PortState.reset g = false) ∧
    ground { PortState.reset with attnEnable := true, done := true } none = true ∧
    ground { PortState.reset with latched := 0x800000, mask := 0x800000 } (some 23) = true ∧
    NothingDue up ∧
    ((up.updPort .a fun q => { q with mode := .edge, attn := .pulsing }).port .a).attn = .pulsing :=
  ⟨fun g => by cases g <;> simp [ground, PortState.reset], rfl, rfl, ⟨rfl, rfl, rfl⟩, rfl⟩

theorem witness_RecordAndClearCommandsOpen :
    Ready .a ⟨0, 0, 0, 0, 0⟩ up ∧ Ready .b ⟨0, 0, 0, 0, 0⟩ up ∧
    Ready .a ⟨chanByte .c1, 0, 0, 0, 255⟩ (withWindow .a ⟨1, 0, 0, 0, 255⟩ up) ∧
    (let full := { up with stc := { up.stc with
        access := .applying, queue := List.replicate 16 (item .clear) } }
     Ready .a ⟨0, 0, 0, 0, 0⟩ full ∧ 16 ≤ full.stc.queue.length) ∧
    (let last := { up with stc := { up.stc with
        access := .applying, queue := List.replicate 15 (item .clear) } }
     Ready .a ⟨0, 0, 0, 0, 0⟩ last ∧ last.stc.queue.length < 16) := by
  unfold Ready NothingDue
  decide +kernel

theorem witness_TimeoutEndsDataPhase :
    phaseHolds .b .dataIn (.start .setView .zero 1 []) up ∧
    phaseHolds .a .dataOut (.start .readPicks .zero 2 [1]) (holdingPicks 1 up) ∧
    phaseHolds .a .dataIn (loading 1) up ∧ phaseHolds .a .dataIn (loading 1) (applying up) ∧
    ¬ awaitsItems (loading 1) (inPhase .a .dataIn (loading 1) up) ∧
    awaitsItems (loading 1) (inPhase .a .dataIn (loading 1) (applying up)) := by
  unfold phaseHolds NothingDue
  refine ⟨by decide +kernel, by decide +kernel, by decide +kernel, by decide +kernel, ?_, ?_⟩
  · unfold awaitsItems; decide +kernel
  · unfold awaitsItems; decide +kernel

theorem witness_SettingCommandsReplace :
    Ready .a ⟨0, 0, 0, 0, 0⟩ up ∧
    Ready .a ⟨1, 0, 0, 0, 0⟩ (withWindow .a ⟨1, 0, 0, 0, 0⟩ up) ∧
    Ready .a ⟨31, 0, 0, 0, 0⟩ (withWindow .a ⟨31, 0, 0, 0, 0⟩ up) ∧
    Ready .a ⟨chanByte .c1, 127, 127, 0, 0⟩ (withWindow .a ⟨1, 127, 127, 0, 0⟩ up) ∧
    Ready .b ⟨1, 1, 1, 0, 0⟩ (withWindow .b ⟨1, 1, 1, 0, 0⟩ up) ∧
    Ready .b ⟨32, 0, 0, 0, 0⟩ (withWindow .b ⟨32, 0, 0, 0, 0⟩ up) ∧
    Ready .b ⟨0x7F, 0x7F, 0xFF, 0, 0⟩ (withWindow .b ⟨0x7F, 0x7F, 0xFF, 0, 0⟩ up) := by
  unfold Ready NothingDue
  decide +kernel

theorem witness_OneRecordReads :
    Ready .a ⟨chanByte .c0, 0, 0, 0, 0⟩ up ∧
    Ready .b ⟨chanByte .c1, 0, 0, 0, 255⟩ (withWindow .b ⟨1, 0, 0, 0, 255⟩ up) ∧
    phaseHolds .a .dataOut (.start .readCursor .zero 1 [5]) up ∧
    phaseHolds .b .dataOut (.start .identify .zero 1 [0]) up := by
  unfold phaseHolds Ready NothingDue
  decide +kernel

/-- The reservation count is `n`. -/
def reserving (n : Nat) (s : State) : State := { s with stc := { s.stc with reserved := n } }

theorem witness_EntryRecordJoinsOrFull :
    (parseEntry ((loading 1).words ++ [0])).isSome = true ∧
    phaseHolds .a .dataIn (loading 1) (reserving 1023 up) ∧
    (reserving 1023 up).stc.table.length + (reserving 1023 up).stc.reserved < 1024 ∧
    phaseHolds .a .dataIn (loading 1) (reserving 1024 up) ∧
    1024 ≤ (reserving 1024 up).stc.table.length + (reserving 1024 up).stc.reserved := by
  unfold phaseHolds NothingDue
  decide +kernel

theorem witness_RemovalAndWindowRecordsJoin :
    phaseHolds .a .dataIn (.start .removeCandidates .zero 1 [7]) up ∧
    parseRemoval ([7] ++ [15]) = some (7, none) ∧ parseRemoval ([7] ++ [6]) = some (7, some .node) ∧
    phaseHolds .a .dataIn (.start .setWindow ⟨1, 0, 0, 0, 0⟩ 1 [0, 5, 0, 5, 0, 5, 0, 5]) up ∧
    parseWindow ([0, 5, 0, 5, 0, 5, 0, 5] ++ [0]) = some (rect 5 5 5 5) := by
  unfold phaseHolds NothingDue
  decide +kernel

theorem witness_BadTableRecordEndsPhase :
    phaseHolds .a .dataIn (.start .loadCandidates .zero 1 [12, 0x0122, 0, 0, 0, 0]) up ∧
    parseEntry ([12, 0x0122, 0, 0, 0, 0] ++ [0]) = none ∧
    phaseHolds .a .dataIn (.start .removeCandidates .zero 1 [7]) up ∧ parseRemoval ([7] ++ [7]) = none ∧
    phaseHolds .a .dataIn (.start .setWindow .zero 1 [0, 5, 0, 5, 0, 4, 0, 5]) (applying up) ∧
    parseWindow ([0, 5, 0, 5, 0, 4, 0, 5] ++ [0]) = none := by
  unfold phaseHolds NothingDue
  decide +kernel

theorem witness_BatchStartTakesQueue :
    (draining up).stc.access = .draining ∧ (draining up).stc.queue ≠ [] ∧
    (draining up).stc.inFlight = 0 ∧ (∀ c b, ((draining up).chan c).search ≠ .waiting b true) ∧
    (let held := (inPhase .a .dataIn (loading 2) (draining up)).updPort .a fun q => { q with dreq := false }
     (held.port .a).state = .dataIn ∧ (held.port .a).dreq = false ∧
       (held.port .a).cmd = some (loading 2) ∧ (loading 2).clearWaiting = false) ∧
    (let clear := { Progress.start .clearTable .zero 0 [] with clearWaiting := true }
     let held := (draining up).updPort .a fun q => { q with state := .busy, cmd := some clear }
     (held.port .a).state = .busy ∧ (held.port .a).cmd = some clear) :=
  ⟨rfl, by decide, rfl, fun c b h => (by cases c <;> cases h), ⟨rfl, rfl, rfl, rfl⟩, rfl, rfl⟩

theorem witness_BatchCompletionAppliesItems :
    NothingDue (applying up) ∧ (applying up).stc.access = .applying ∧
    (∃ i ∈ [item .clear, item (.evict .c1 .none)], i.kind = .clear) ∧
    hitLost [] .c0 { CursorRecord.reset with hit := some ⟨7, .endpoint, 0⟩ } = true := by
  unfold NothingDue
  decide +kernel

theorem witness_BatchCompletionCompletesCommand :
    NothingDue (applying up) ∧ ((applying up).port .a).cmd ≠ none ∧
    ((applying up).port .a).state = .busy ∧ (applying up).stc.queue = [] ∧
    isTableCommand (loading 3).op = true ∧ (loading 3).clearWaiting = false ∧
    phaseHolds .a .dataIn (loading 1) (applying up) ∧
    (let alone := (applying up).updPort .a fun q => { q with state := .ready, cmd := none }
     NothingDue alone ∧ (alone.port .a).cmd = none) := by
  unfold phaseHolds NothingDue
  decide +kernel

theorem witness_ItemsActOnTable :
    (let e := entryOf 15 .node (pt 1001 900) 0 0 true false
     ∀ c, (e.seats.get c && (tracedWork.windows.get c).contains e.point) = false) ∧
    (let e := entryOf 9 .center (pt 600 600) 0 3 false true
     (e.seats.get .c1 && (tracedWork.windows.get .c1).contains e.point) = true ∧
       tracedWork.table.any (sameIdentity e) = true) ∧
    (let e := entryOf 15 .node (pt 1000 1000) 0 0 true false
     (e.seats.get .c0 && (tracedWork.windows.get .c0).contains e.point) = true ∧
       tracedWork.table.any (sameIdentity e) = false) :=
  ⟨fun c => by cases c <;> decide +kernel, by decide +kernel, by decide +kernel⟩

theorem witness_DeviceResetAndStartUp :
    NothingDue .reset ∧ State.reset.stc.access = .initializing ∧
    ∀ p, (State.reset.port p).state = .busy ∧ (State.reset.port p).cmd = none :=
  ⟨⟨rfl, rfl, rfl⟩, rfl, fun p => by cases p <;> exact ⟨rfl, rfl⟩⟩

theorem witness_SearchesBeginAndStart :
    ((with0 (fun ch => { ch with search := .waiting (.research (tp 3 4)) true }) up).chan .c0).search =
      .waiting (.research (tp 3 4)) true ∧
    (let s := with0 (fun ch => { ch with flag := true }) up
     NothingDue s ∧ (s.chan .c0).search = .quiet ∧ (s.chan .c0).queue = [] ∧
       (s.chan .c0).flag = true) :=
  ⟨rfl, ⟨rfl, rfl, rfl⟩, rfl, rfl, rfl⟩

/-- A search of channel 0 is in flight with this mark. -/
def marked (m : Mark) (s : State) : State :=
  with0 (fun ch => { ch with search := .searching (.research (tp 3 4)) m (exampleInputs 3 4) })
    { s with stc := { exampleController exampleTable with inFlight := 1 } }

theorem witness_StaleCompletionDiscards :
    NothingDue (marked .reset up) ∧ NothingDue (marked .view up) ∧
    ((marked .reset up).chan .c0).search = .searching (.research (tp 3 4)) .reset (exampleInputs 3 4) ∧
    ((marked .view up).chan .c0).search = .searching (.research (tp 3 4)) .view (exampleInputs 3 4) :=
  ⟨⟨rfl, rfl, rfl⟩, ⟨rfl, rfl, rfl⟩, rfl, rfl⟩

theorem witness_CompletionWritesResult :
    NothingDue (marked .none up) ∧
    ((marked .none up).chan .c0).search = .searching (.research (tp 3 4)) .none (exampleInputs 3 4) :=
  ⟨⟨rfl, rfl, rfl⟩, rfl⟩

/-- The example's table: A is kept at distance 60, not kept at 61, and no entry is a candidate far off. -/
theorem witness_CandidateChoiceFollowsRanking :
    exampleTable.Pairwise (fun a b => sameIdentity a b = false) ∧
    (previousEntry .c0 (exampleInputs 560 500) exampleTable).map
      (keepsPrevious .c0 (exampleInputs 560 500) exampleTable) = some true ∧
    (previousEntry .c0 (exampleInputs 561 500) exampleTable).map
      (keepsPrevious .c0 (exampleInputs 561 500) exampleTable) = some false ∧
    (candidates .c0 (exampleInputs 561 500) exampleTable).length = 2 ∧
    candidates .c0 (exampleInputs 0 0) exampleTable = [] := by
  decide +kernel

theorem witness_ResultFollowsHitConstraintGrid :
    (rect 0 0 1000 1000).contains (pt 1000 1000) = true ∧
    (rect 0 0 1000 1000).contains (pt 1001 1000) = false ∧
    (rect 0 0 1000 1000).depth (pt 79 500) < 2 * 40 ∧ 2 * 40 ≤ (rect 0 0 1000 1000).depth (pt 80 500) ∧
    (chooseEntry .c0 (exampleInputs 540 520) exampleTable).isSome = true ∧
    chooseEntry .c0 (exampleInputs 0 0) exampleTable = none := by
  decide +kernel

theorem witness_CoordinatesAreExact :
    ({ viewOf 65535 0 with ox := 4294934528, oy := 2147483647 - 32767 * 65535 } : View).Wf ∧
    (16777216 : Coord).toInt = 16777216 ∧ (1 : Coord).toInt = 1 ∧
    2147483647 < (0 : Int) + 16777216 * Int.fdiv (2147483647 - 0 + Int.fdiv 16777216 2) 16777216 ∧
    (-1 : Int) + 16777216 * Int.fdiv (-2147483648 - (-1) + Int.fdiv 16777216 2) 16777216 < -2147483648 := by
  unfold View.Wf
  decide +kernel

theorem witness_ViewRecordTakesEffect :
    phaseHolds .b .dataIn (.start .setView .zero 1 [0, 0, 0, 0, 1]) up ∧
    parseView ([0, 0, 0, 0, 1] ++ [15]) = some (0, 0, 1, 15) ∧
    parseView ([0, 0, 0, 0, 1] ++ [16]) = none := by
  unfold phaseHolds NothingDue
  decide +kernel

theorem witness_GridAndSettingsRecordsTakeEffect :
    phaseHolds .a .dataIn (.start .setGrid .zero 1 [1, 0, 0, 0, 0, 1, 0, 0]) up ∧
    parseGrid ([1, 0, 0, 0, 0, 1, 0, 0] ++ [256]) =
      some { present := true, gx := 0, gy := 0, px := 1, py := 16777216 } ∧
    parseGrid ([1, 0, 0, 0, 0, 1, 0, 0] ++ [0]) = none ∧
    phaseHolds .a .dataIn (.start .setSnap ⟨1, 0, 0, 0, 0⟩ 1 [0, 0, 1023]) up ∧
    (parseSettings ([0, 0, 1023] ++ [15])).isSome = true ∧ parseSettings ([0, 0, 1023] ++ [16]) = none := by
  unfold phaseHolds NothingDue
  decide +kernel

/-- Channel 0 has this report at the head of its queue and is in this state. -/
def reporting (r : Report) (st : ChanState) (s : State) : State :=
  with0 (fun ch => { ch with state := st, raw := tp 10 10, queue := [r], timer := .running 600 }) s

theorem witness_ReportsAndRestTimerActOnChannel :
    (∀ r st, NothingDue (reporting r st up) ∧ ((reporting r st up).chan .c0).search = .quiet ∧
      ((reporting r st up).chan .c0).queue = [r]) ∧
    up.stc.access = .opened ∧
    (((12 : TabletCoord).toNat : Int) - (10 : TabletCoord).toNat).natAbs = Settings.reset.deadband.toNat ∧
    (reporting ⟨.proxOut, true⟩ .tracking up |>.chan .c0).timer = .running 600 :=
  ⟨fun _ _ => ⟨⟨rfl, rfl, rfl⟩, rfl, rfl⟩, rfl, by decide, rfl⟩

theorem witness_ResetChannelClears :
    Ready .a ⟨chanByte .c0, 0, 0, 0, 0⟩ (marked .none up) ∧
    Ready .a ⟨chanByte .c1, 0, 0, 0, 0⟩ (withWindow .a ⟨1, 0, 0, 0, 0⟩ up) ∧
    (let s := with0 (fun ch => { ch with search := .waiting (.research (tp 3 4)) false }) up
     Ready .a ⟨chanByte .c0, 0, 0, 0, 0⟩ s) := by
  unfold Ready NothingDue
  decide +kernel

/-- The head frame of the holding buffer and the report queue it is offered to. -/
def offering (m : Message) (q : List Report) (s : State) : State :=
  with0 (fun ch => { ch with queue := q })
    { s with link := { s.link with state := .run, holding := [⟨.c0, m⟩] } }

theorem witness_FrameOfferJoinsOrRefuses :
    (∀ m q, NothingDue (offering m q up) ∧ (offering m q up).link.holding = [⟨.c0, m⟩] ∧
      (offering m q up).link.hold = holdLevel (offering m q up).link) ∧
    ((offering (.motion (tp 1 1) 0) (List.replicate 4 ⟨.proxOut, true⟩) up).chan .c0).queue.length = 4 ∧
    ((offering .proxOut (List.replicate 3 ⟨.proxOut, true⟩) up).chan .c0).queue.length < 4 ∧
    ((offering (.motion (tp 1 1) 0) [⟨.motion (tp 2 2) 0, false⟩] up).chan .c0).queue =
      [] ++ [⟨.motion (tp 2 2) 0, false⟩] :=
  ⟨fun _ _ => ⟨⟨rfl, rfl, rfl⟩, rfl, rfl⟩, rfl, by decide, rfl⟩

theorem witness_PickOfferAcceptsOrRefuses :
    (holdingPicks 31 up).picks.records.length < 32 ∧ 32 ≤ (holdingPicks 32 up).picks.records.length ∧
    (holdingPicks 23 up).picks.records.length + 1 = up.picks.threshold.toNat := by decide +kernel

theorem witness_PressesThatMakeRecords :
    (up.chan .c0).stage = .idle ∧ ((searching 1 1 up).chan .c0).stage = .armed ∧
    (let ch := (with0 bandingPolyline up).chan .c0
     ch.stage = .banding ∧ ch.target = some 6 ∧ ch.template = .polyline ∧ ch.anchors.length = 2 ∧
       ch.action = some .hold) ∧
    (let ch := (with0 (fun ch => { bandingPolyline ch with target := some 3 }) up).chan .c0
     ch.stage = .banding ∧ ch.target = some 3 ∧ 3 ≤ ch.anchors.length + 1) := by decide +kernel

theorem witness_PressesThatMakeNoRecord :
    (let ch := (with0 (fun ch => { bandingPolyline ch with anchors := [pt 0 0] }) up).chan .c0
     ch.stage = .banding ∧ ch.template = .polyline ∧ ch.anchors.length ≤ 1) ∧
    ((with0 (fun ch => { bandingPolyline ch with template := .line }) up).chan .c0).template ≠ .polyline ∧
    ((with0 (fun ch => { bandingPolyline ch with stage := .hold }) up).chan .c0).stage = .hold ∧
    ((with0 (fun ch => { bandingPolyline ch with stage := .stalled, saved := some .pick }) up).chan
      .c0).saved ≠ none := by decide +kernel

theorem witness_ArmFigureArms :
    Ready .a ⟨chanByte .c0, lowByte Template.polyline.code, 16, 3, 0⟩ (withWindow .a ⟨0, 5, 16, 3, 0⟩ up) ∧
    Ready .a ⟨chanByte .c0, lowByte Template.none.code, 0, 0, 0⟩ (with0 bandingPolyline up) ∧
    Ready .a ⟨chanByte .c1, lowByte Template.line.code, 0, 1, 0⟩ (withWindow .a ⟨1, 1, 0, 1, 0⟩ up) := by
  unfold Ready NothingDue
  decide +kernel

theorem witness_CancelAndReleaseFollowStage :
    Ready .a ⟨chanByte .c0, 0, 0, 0, 0⟩ (with0 bandingPolyline up) ∧
    Ready .a ⟨chanByte .c0, 0, 0, 0, 0⟩ (with0 (fun ch => { ch with stage := .stalled }) up) ∧
    Ready .a ⟨chanByte .c0, 1, 0, 0, 0⟩
      (withWindow .a ⟨0, 1, 0, 0, 0⟩ (with0 (fun ch => { bandingPolyline ch with stage := .hold }) up)) := by
  unfold Ready NothingDue
  decide +kernel

theorem witness_ClearStallReplays :
    Ready .a ⟨chanByte .c0, 0, 0, 0, 0⟩ up ∧ (up.chan .c0).stage ≠ .stalled ∧
    (let s := with0 (fun ch => { bandingPolyline ch with stage := .stalled, ret := some .banding }) up
     Ready .a ⟨chanByte .c0, 0, 0, 0, 0⟩ s ∧ (s.chan .c0).stage = .stalled ∧
       (s.chan .c0).ret = some .banding) := by
  unfold Ready NothingDue
  decide +kernel

theorem witness_ReadPicksTransfersHead :
    Ready .a ⟨0, 0, 0, 0, 0⟩ up ∧ up.picks.records = [] ∧
    Ready .a ⟨0, 0, 0, 0, 0⟩ (holdingPicks 2 up) ∧
    (holdingPicks 2 up).picks.records = pointRecord :: [pointRecord] ∧
    phaseHolds .a .dataOut (.start .readPicks .zero 2 [9]) (holdingPicks 2 up) ∧
    phaseHolds .a .dataOut { Progress.start .readPicks .zero 2 [9] with moved := 1 } (holdingPicks 1 up) := by
  unfold phaseHolds Ready NothingDue
  decide +kernel

/-- The overlay buffers are these. -/
def buffers (x y : Buffer) (pending : Bool) (s : State) : State :=
  { s with overlay := { s.overlay with bufX := x, bufY := y, swapPending := pending } }

theorem witness_FsyncFollowsBuffers :
    NothingDue up ∧
    (let o := (buffers (.front smallFrame) (.ready smallFrame) false up).overlay
     o.bufY = .ready smallFrame ∧ anyPinned o = false ∧ anyReady o = true) ∧
    (let o := (buffers (.frontPinned smallFrame) (.ready smallFrame) true up).overlay
     anyReady o = true ∧ anyPinned o = true) ∧
    (let o := (buffers (.front smallFrame) (.building (bandingSnapshot 1)) false up).overlay
     anyReady o = false ∧ anyBuilding o = true) ∧
    up.overlay.bufX = .free ∧ up.overlay.bufY = .free := by
  unfold NothingDue
  decide +kernel

theorem witness_BuildCompletesWithinBudget :
    (let s := buffers (.building (bandingSnapshot 11)) .free false up
     NothingDue s ∧ s.overlay.bufX = .building (bandingSnapshot 11) ∧ s.overlay.bufY.state ≠ .building) ∧
    (let s := buffers (.front smallFrame) (.building (bandingSnapshot 12)) false up
     NothingDue s ∧ s.overlay.bufY = .building (bandingSnapshot 12) ∧ s.overlay.bufX.state ≠ .building) ∧
    (allStrokes (bandingSnapshot 11)).length = 46 ∧ (allStrokes (bandingSnapshot 12)).length = 50 := by
  unfold NothingDue
  decide +kernel

/-- Snapshots for each clause about the tiers: an open figure, one in a stall, a held one. -/
theorem witness_tiers_of_a_build :
    (let k := (bandingSnapshot 2).chans.ch0
     k.state = .tracking ∧ k.stage = .banding ∧ k.anchors = pt 0 0 :: [pt 0 0] ∧
       k.template = .polyline ∧ k.anchors.getLast? = some (pt 0 0)) ∧
    (let k := { (bandingSnapshot 1).chans.ch0 with stage := .stalled, ret := some .banding, template := .arc3 }
     k.stage = .stalled ∧ k.ret = some .banding ∧ k.anchors = pt 0 0 :: [] ∧ k.template = .arc3) ∧
    (let k := { (bandingSnapshot 3).chans.ch0 with state := .away, stage := .hold, template := .arc3 }
     k.state = .away ∧ k.stage = .hold ∧ k.anchors = [pt 0 0, pt 0 0, pt 0 0]) ∧
    (let k := { (bandingSnapshot 1).chans.ch0 with stage := .stalled, ret := some .armed }
     k.stage = .stalled ∧ k.ret = some .armed) := by decide +kernel

theorem witness_FetchOverlayReadsFront :
    Ready .b ⟨0, 0, 0, 0, 0⟩ up ∧ up.overlay.bufX.state ≠ .front ∧ up.overlay.bufY.state ≠ .front ∧
    Ready .b ⟨0, 0, 0, 0, 0⟩ (withFront up) ∧ (withFront up).overlay.bufX = .front smallFrame ∧
    (withFront up).overlay.bufY.state ≠ .front ∧
    phaseHolds .b .dataOut { Progress.start .fetchOverlay .zero 3 [1] with moved := 1 }
      (buffers (.frontPinned smallFrame) (.ready smallFrame) false up) ∧
    smallFrame.strokes[1]?.isSome = true := by
  unfold phaseHolds Ready NothingDue
  decide +kernel

theorem witness_FetchOverlayReleasesPin :
    phaseHolds .b .dataOut { Progress.start .fetchOverlay .zero 3 [1] with moved := 2 }
      (buffers (.frontPinned smallFrame) (.ready smallFrame) true up) ∧
    phaseHolds .b .dataOut { Progress.start .fetchOverlay .zero 3 [1] with moved := 2 }
      (buffers (.building (bandingSnapshot 1)) (.frontPinned smallFrame) false up) := by
  unfold phaseHolds NothingDue
  decide +kernel

/-- The frame assembler holds these bytes. -/
def assembling (bytes : List Byte) (s : State) : State :=
  { s with link := { s.link with state := .run, assembler := .inFrame bytes } }

theorem witness_LinkBytesAssemble :
    NothingDue up ∧ up.link.hold = holdLevel up.link ∧ up.link.assembler = .hunt ∧
    ∀ bytes, NothingDue (assembling bytes up) ∧
      (assembling bytes up).link.hold = holdLevel (assembling bytes up).link ∧
      (assembling bytes up).link.assembler = .inFrame bytes :=
  ⟨⟨rfl, rfl, rfl⟩, rfl, rfl, fun _ => ⟨⟨rfl, rfl, rfl⟩, rfl, rfl⟩⟩

theorem witness_CompletedFrameIsHeldOrLost :
    goodFrame ([1, 3] ++ [0xFC]) = some (1, .proxOut) ∧ goodFrame ([1, 3] ++ [0xFB]) = none ∧
    goodFrame ([2, 3] ++ [0xFB]) = some (2, .proxOut) ∧ goodFrame ([3, 3] ++ [0xFA]) = some (3, .proxOut) ∧
    (goodFrame ([1, 1, 0xE8, 3, 0xD1, 7, 1] ++ [0x3A])).isSome = true ∧
    matchStation up.link 1 = some .c0 ∧ matchStation up.link 2 = some .c1 ∧ matchStation up.link 3 = none ∧
    (assembling [1, 3] up).link.state = .run ∧ (assembling [1, 3] up).link.holding.length < 2 := by
  decide +kernel

theorem witness_GoodFramesAreThoseThatCheck :
    (0x01 : Byte) + 1 + 0xE8 + 3 + 0xD1 + 7 + 1 + 0x3A = 0 ∧
    (0xFF : Byte).toNat + 256 * (0x7F : Byte).toNat = 32767 := by decide

theorem witness_ReportingCommandsComplete :
    Ready .a ⟨0, 0, 0, 0, 0⟩ (holdingPicks 32 up) ∧ Ready .b ⟨0, 0, 0, 0, 0⟩ up ∧
    Ready .b ⟨0x7F, 0x7F, 0xFF, 0, 0⟩ (withWindow .b ⟨0x7F, 0x7F, 0xFF, 0, 0⟩ up) := by
  unfold Ready NothingDue
  decide +kernel

theorem witness_CommandCodesNameCommands :
    commandOfCode 0x42 = some .fetchOverlay ∧ (0x43 : Byte) ∉ Command.all.map Command.code := by decide

theorem witness_RecordsReadBack :
    anySeat (entryOf 1 .node (pt 0 0) 3 15 false true).seats = true ∧
    (BitVec.ofInt 32 (-5) : Coord).toInt ≤ (BitVec.ofInt 32 (-5) : Coord).toInt ∧
    (viewOf 1 15).Wf ∧ ({ present := true, gx := 0, gy := 0, px := 1, py := 16777216 } : Grid).Wf ∧
    Settings.reset.radius ≠ 0 := by
  unfold View.Wf Grid.Wf
  decide +kernel

/-- The part after start-up, with a command waiting. -/
def stepping : State := { up with pending := [.fsync] }

/-- It takes a step: each theorem below adds the rest of what a statement about steps asks. -/
theorem witness_StepKeeps : ∃ t, step stepping = .next t := by
  have h : (match step stepping with
    | .next _ => true | .fault _ => false | .refused _ => false) = true := by decide +kernel
  revert h
  cases step stepping with
  | next t => exact fun _ => ⟨t, rfl⟩
  | fault _ => nofun
  | refused _ => nofun

theorem witness_StepKeepsAttentionAndPickEvents :
    AttentionWf stepping ∧ PicksWf stepping ∧ EventSetsWf stepping := by
  refine ⟨?_, ?_, ?_⟩
  · unfold AttentionWf PortState.AttnWf; decide +kernel
  · unfold PicksWf; decide +kernel
  · unfold EventSetsWf PortState.SetsWf; decide +kernel

theorem witness_StepKeepsTableTurns : PortsWf stepping ∧ TurnsWf stepping := by
  have a : stepping.ports.pa.cmd = none := by decide +kernel
  have b : stepping.ports.pb.cmd = none := by decide +kernel
  refine ⟨⟨⟨fun _ => a, by decide +kernel, fun c h => (nomatch h.symm.trans a), by decide +kernel,
      by decide +kernel, by decide +kernel, by decide +kernel⟩,
    ⟨fun _ => b, by decide +kernel, fun c h => (nomatch h.symm.trans b), by decide +kernel,
      by decide +kernel, by decide +kernel, by decide +kernel⟩⟩, ?_⟩
  unfold TurnsWf
  decide +kernel

theorem witness_StepKeepsTableCapacity :
    PortsWf stepping ∧ TurnsWf stepping ∧ EditQueueWf stepping ∧ CapacityWf stepping := by
  refine ⟨witness_StepKeepsTableTurns.1, witness_StepKeepsTableTurns.2,
    ⟨by decide +kernel, fun h => absurd h (by decide +kernel)⟩, ?_⟩
  unfold CapacityWf
  decide +kernel

/-- Turns and edit queue while a batch is applied and a command waits for it. -/
theorem witness_turns_while_applying : TurnsWf (applying up) ∧ EditQueueWf (applying up) := by
  refine ⟨?_, by decide +kernel, fun h => absurd h (by decide +kernel)⟩
  unfold TurnsWf
  decide +kernel

theorem witness_StepKeepsTableEntries :
    TableWf stepping ∧ TableWf { stepping with stc := exampleController exampleTable } := by
  unfold TableWf Entry.Wf
  decide +kernel

theorem witness_StepKeepsChannelsWellFormed :
    BothChannels (fun ch => ch.QueueWf ∧ ch.StateWf ∧ ch.cursor.Wf) stepping ∧
    BothChannels (fun ch => ch.QueueWf ∧ ch.StateWf ∧ ch.cursor.Wf)
      (reporting ⟨.proxOut, true⟩ .tracking stepping) := by
  refine ⟨⟨?_, ?_⟩, ⟨?_, ?_⟩⟩ <;> unfold Channel.QueueWf Channel.StateWf CursorRecord.Wf <;>
    decide +kernel

theorem witness_StepKeepsFiguresWellFormed :
    BothChannels Channel.FigureWf stepping ∧
    BothChannels Channel.FigureWf (with0 bandingPolyline stepping) :=
  ⟨⟨⟨rfl, rfl, rfl, rfl, rfl, rfl⟩, ⟨rfl, rfl, rfl, rfl, rfl, rfl⟩⟩,
    ⟨⟨by decide +kernel, 6, rfl, Or.inr (Or.inr ⟨rfl, by decide, by decide⟩)⟩,
      ⟨by decide +kernel, fun t h => by cases h; decide +kernel⟩, rfl, rfl⟩,
    ⟨rfl, rfl, rfl, rfl, rfl, rfl⟩⟩

theorem witness_StepKeepsOverlayConfiguration :
    OverlayWf stepping ∧
    OverlayWf (buffers (.frontPinned smallFrame) (.ready smallFrame) true stepping) :=
  ⟨⟨by decide +kernel, by decide +kernel, trivial, trivial⟩,
    by decide +kernel, by decide +kernel, (by decide +kernel : smallFrame.strokes.length ≤ 48),
    (by decide +kernel : smallFrame.strokes.length ≤ 48)⟩

theorem witness_StepKeepsLinkViewAndGrid :
    (LinkWf stepping ∧ stepping.view.Wf ∧ stepping.grid.Wf) ∧ LinkWf (offering (.motion (tp 1 1) 0) [] stepping) ∧
    (offering (.motion (tp 1 1) 0) [] stepping).view.Wf ∧
    (offering (.motion (tp 1 1) 0) [] stepping).grid.Wf := by
  unfold LinkWf View.Wf Grid.Wf
  decide +kernel

end Sys2Proof.Machine.Tests
end

section
/-! The arithmetic of the View Unit: the mapping of R3, the radii of R9, the rounding of R13 and R14. -/
namespace Sys2Proof.Machine

/-! ## Drawing coordinates as integers -/

theorem coord_toInt_bounds (c : Coord) : -2147483648 ≤ c.toInt ∧ c.toInt ≤ 2147483647 :=
  ⟨BitVec.le_toInt c, BitVec.toInt_le⟩

theorem coord_toInt_ofInt {i : Int} (lo : -2147483648 ≤ i) (hi : i ≤ 2147483647) :
    (BitVec.ofInt 32 i).toInt = i :=
  BitVec.toInt_ofInt_eq_self (by decide) lo (Int.lt_add_one_of_le hi)

/-- An addend that stays below one which fits is added exactly: the origin itself is the lower bound. -/
theorem coord_toInt_ofInt_add {o : Coord} {addend far : Nat} (le : addend ≤ far)
    (fits : o.toInt + far ≤ 2147483647) :
    (BitVec.ofInt 32 (o.toInt + addend)).toInt = o.toInt + addend := by
  have origin := coord_toInt_bounds o
  exact coord_toInt_ofInt (by omega) (by omega)

/-! ## The mapping (R3) and the radii (R9) -/

/-- The scaling that the mapping and the conversion of radii share. -/
theorem scaled_le_scaled (v : View) {a b : Nat} (h : a ≤ b) :
    a * v.n.toNat / 2 ^ v.shift.toNat ≤ b * v.n.toNat / 2 ^ v.shift.toNat :=
  Nat.div_le_div_right (Nat.mul_le_mul_right _ h)

/-- No tablet coordinate is mapped beyond the far corner, which R4 keeps in range. -/
theorem scaled_le_farAddend (v : View) (t : TabletCoord) :
    t.toNat * v.n.toNat / 2 ^ v.shift.toNat ≤ farAddend v.n v.shift.toNat :=
  scaled_le_scaled v (Nat.le_of_lt_succ t.isLt)

theorem mapAxis_toInt {v : View} {o : Coord} (t : TabletCoord)
    (far : o.toInt + farAddend v.n v.shift.toNat ≤ 2147483647) :
    (mapAxis v o t).toInt = o.toInt + (t.toNat * v.n.toNat / 2 ^ v.shift.toNat : Nat) :=
  coord_toInt_ofInt_add (scaled_le_farAddend v t) far

theorem mapAxis_zero (v : View) (o : Coord) : mapAxis v o 0 = o := by
  simp [mapAxis]

theorem mapAxis_mono {v : View} {o : Coord} {t t' : TabletCoord}
    (far : o.toInt + farAddend v.n v.shift.toNat ≤ 2147483647) (h : t.toNat ≤ t'.toNat) :
    (mapAxis v o t).toInt ≤ (mapAxis v o t').toInt := by
  rw [mapAxis_toInt t far, mapAxis_toInt t' far]
  exact Int.add_le_add_left (Int.ofNat_le.2 (scaled_le_scaled v h)) _

theorem convertRadius_of_eq_zero {v : View} {r : Nat}
    (h : r * v.n.toNat / 2 ^ v.shift.toNat = 0) : convertRadius v r = 1 := by
  simp [convertRadius, h]

theorem convertRadius_of_ne_zero {v : View} {r : Nat}
    (h : r * v.n.toNat / 2 ^ v.shift.toNat ≠ 0) :
    convertRadius v r = r * v.n.toNat / 2 ^ v.shift.toNat :=
  max_eq_right (Nat.one_le_iff_ne_zero.2 h)

theorem convertRadius_mono (v : View) {r r' : Nat} (h : r ≤ r') :
    convertRadius v r ≤ convertRadius v r' :=
  max_le_max_left 1 (scaled_le_scaled v h)

/-- The bound of R9: the largest release radius under the largest numerator. -/
theorem convertRadius_le (v : View) {r : Nat} (h : r ≤ 1534) : convertRadius v r ≤ 100530690 := by
  have product : r * v.n.toNat ≤ 1534 * 65535 :=
    Nat.mul_le_mul h (Nat.le_of_lt_succ v.n.isLt)
  have quotient := Nat.div_le_self (r * v.n.toNat) (2 ^ v.shift.toNat)
  exact max_le (by decide) (quotient.trans product)

/-! ## Grid rounding (R13, R14) -/

/-- Line `k` of the grid with origin `g` and pitch `p`, as an integer that may be out of range. -/
def gridLine (g p : Coord) (k : Int) : Int := g.toInt + p.toInt * k

/-- The floor quotient of R13: the number of the line nearest to `x`. -/
def nearestLine (g p x : Coord) : Int :=
  Int.fdiv (x.toInt - g.toInt + Int.fdiv p.toInt 2) p.toInt

theorem gridLine_sub_one (g p : Coord) (k : Int) :
    gridLine g p (k - 1) = gridLine g p k - p.toInt := by
  unfold gridLine; ring

theorem gridLine_add_one (g p : Coord) (k : Int) :
    gridLine g p (k + 1) = gridLine g p k + p.toInt := by
  unfold gridLine; ring

/-- The nearest line is at most half a pitch away: the remainder of the division by the pitch, less half
a pitch, is the distance from the line to `x`. -/
theorem gridLine_nearestLine_near {g p : Coord} (x : Coord) (pos : 1 ≤ p.toInt) :
    2 * (gridLine g p (nearestLine g p x) - x.toInt).natAbs ≤ p.toInt := by
  have half : Int.fdiv p.toInt 2 = p.toInt / 2 := Int.fdiv_eq_ediv_of_nonneg _ (by decide)
  have division := Int.mul_ediv_add_emod (x.toInt - g.toInt + p.toInt / 2) p.toInt
  have nonneg := Int.emod_nonneg (x.toInt - g.toInt + p.toInt / 2) (by omega : p.toInt ≠ 0)
  have lt_pitch := Int.emod_lt_of_pos (x.toInt - g.toInt + p.toInt / 2) (by omega : 0 < p.toInt)
  rw [gridLine, nearestLine, half, Int.fdiv_eq_ediv_of_nonneg _ (by omega)]
  omega

theorem roundAxis_eq (g p x : Coord) :
    roundAxis g p x =
      if 2147483647 < gridLine g p (nearestLine g p x) then
        BitVec.ofInt 32 (gridLine g p (nearestLine g p x - 1))
      else if gridLine g p (nearestLine g p x) < -2147483648 then
        BitVec.ofInt 32 (gridLine g p (nearestLine g p x + 1))
      else BitVec.ofInt 32 (gridLine g p (nearestLine g p x)) := rfl

section
variable {g p x : Coord}

/-- Above the range the rounding steps back to a line that is representable, the pitch being small. -/
theorem roundAxis_toInt_of_above (small : p.toInt ≤ 16777216) (pos : 1 ≤ p.toInt)
    (above : 2147483647 < gridLine g p (nearestLine g p x)) :
    (roundAxis g p x).toInt = gridLine g p (nearestLine g p x - 1) := by
  have near := gridLine_nearestLine_near (g := g) x pos
  have range := coord_toInt_bounds x
  have back := gridLine_sub_one g p (nearestLine g p x)
  rw [roundAxis_eq, if_pos above]
  exact coord_toInt_ofInt (by omega) (by omega)

theorem roundAxis_toInt_of_below (small : p.toInt ≤ 16777216) (pos : 1 ≤ p.toInt)
    (below : gridLine g p (nearestLine g p x) < -2147483648) :
    (roundAxis g p x).toInt = gridLine g p (nearestLine g p x + 1) := by
  have near := gridLine_nearestLine_near (g := g) x pos
  have range := coord_toInt_bounds x
  have back := gridLine_add_one g p (nearestLine g p x)
  rw [roundAxis_eq, if_neg (by omega), if_pos below]
  exact coord_toInt_ofInt (by omega) (by omega)

theorem roundAxis_toInt_of_inRange (lo : -2147483648 ≤ gridLine g p (nearestLine g p x))
    (hi : gridLine g p (nearestLine g p x) ≤ 2147483647) :
    (roundAxis g p x).toInt = gridLine g p (nearestLine g p x) := by
  rw [roundAxis_eq, if_neg (by omega), if_neg (by omega)]
  exact coord_toInt_ofInt lo hi

/-- R14's bound. Where the rounding steps back, `x` lies between the line left and the line taken. -/
theorem roundAxis_moves_le_pitch (small : p.toInt ≤ 16777216) (pos : 1 ≤ p.toInt) :
    ((roundAxis g p x).toInt - x.toInt).natAbs ≤ p.toInt := by
  have near := gridLine_nearestLine_near (g := g) x pos
  have range := coord_toInt_bounds x
  by_cases above : 2147483647 < gridLine g p (nearestLine g p x)
  · rw [roundAxis_toInt_of_above small pos above, gridLine_sub_one]
    omega
  · by_cases below : gridLine g p (nearestLine g p x) < -2147483648
    · rw [roundAxis_toInt_of_below small pos below, gridLine_add_one]
      omega
    · rw [roundAxis_toInt_of_inRange (by omega) (by omega)]
      omega

end

/-- Settles O28: the parts are the exactness of each axis (R3), the three cases of the rounding (R13, R14)
and the conversion of radii (R9). -/
theorem coordinatesAreExact : Obligations.CoordinatesAreExact := by
  unfold Obligations.CoordinatesAreExact
  refine ⟨?mapping, ?rounding, ?radii, fun _ _ => rfl⟩
  case mapping =>
    intro v pt ⟨_, farX, farY⟩
    have origin : mapPoint v ⟨0, 0⟩ = ⟨v.ox, v.oy⟩ :=
      congrArg₂ Point.mk (mapAxis_zero v v.ox) (mapAxis_zero v v.oy)
    exact ⟨mapAxis_toInt pt.x farX, mapAxis_toInt pt.y farY, origin,
      fun _ => ⟨mapAxis_mono farX, mapAxis_mono farY⟩⟩
  case rounding =>
    intro g p x pos small
    refine ⟨roundAxis_toInt_of_above small pos, roundAxis_toInt_of_below small pos,
      fun lo hi => ?_, roundAxis_moves_le_pitch small pos⟩
    have exact_line := roundAxis_toInt_of_inRange lo hi
    exact ⟨exact_line, exact_line ▸ gridLine_nearestLine_near x pos⟩
  case radii =>
    intro v r r'
    exact ⟨convertRadius_of_eq_zero, convertRadius_of_ne_zero, convertRadius_mono v,
      convertRadius_le v⟩

end Sys2Proof.Machine
end

section
/-! The entries of the Snap Candidate Table (R16, R17). -/
namespace Sys2Proof.Machine

/-! ## Entries: identity, seats, windows -/

/-- What tells the entries of the table apart (R16). -/
def Entry.identity (e : Entry) : Word × SnapKind × Point := (e.handle, e.kind, e.point)

theorem sameIdentity_iff {a b : Entry} : sameIdentity a b = true ↔ a.identity = b.identity := by
  simp [sameIdentity, Entry.identity, and_assoc]

theorem point_eq_of_identity_eq {a b : Entry} (h : a.identity = b.identity) : a.point = b.point :=
  congrArg (·.2.2) h

theorem sameIdentity_eq_false_iff {a b : Entry} :
    sameIdentity a b = false ↔ a.identity ≠ b.identity := by
  rw [← Bool.not_eq_true, sameIdentity_iff]

theorem anySeat_iff {m : PerChan Bool} : anySeat m = true ↔ ∃ c, m.get c = true := by
  constructor
  · intro seat
    rcases (Bool.or_eq_true _ _).mp seat with h | h
    · exact ⟨.c0, h⟩
    · exact ⟨.c1, h⟩
  · rintro ⟨c | c, h⟩
    · exact (Bool.or_eq_true _ _).mpr (.inl h)
    · exact (Bool.or_eq_true _ _).mpr (.inr h)

/-- R17 by channel. -/
theorem Entry.wf_iff {w : PerChan Window} {e : Entry} :
    e.Wf w ↔ anySeat e.seats = true ∧
      ∀ c, e.seats.get c = true → (w.get c).contains e.point = true := by
  refine and_congr_right fun _ => ⟨fun ⟨h0, h1⟩ c => ?_, fun h => ⟨h .c0, h .c1⟩⟩
  cases c
  · exact h0
  · exact h1

/-- `TableWf` in terms of the table and the windows alone, as a batch works on them. -/
def EntriesWf (w : PerChan Window) (table : List Entry) : Prop :=
  (∀ e ∈ table, e.Wf w) ∧ (table.map Entry.identity).Nodup

theorem tableWf_iff {s : State} : TableWf s ↔ EntriesWf s.stc.windows s.stc.table := by
  simp only [TableWf, EntriesWf, List.Nodup, List.pairwise_map, sameIdentity_eq_false_iff]

theorem entriesWf_nil (w : PerChan Window) : EntriesWf w [] := ⟨by simp, by simp⟩

theorem EntriesWf.filter {w : PerChan Window} {table : List Entry} (h : EntriesWf w table)
    (keep : Entry → Bool) : EntriesWf w (table.filter keep) :=
  ⟨fun e he => h.1 e (List.mem_of_mem_filter he), h.2.sublist (List.filter_sublist.map _)⟩

/-- A change of entries that keeps their identities keeps them apart. -/
theorem map_identity_map {f : Entry → Entry} (hf : ∀ e, (f e).identity = e.identity)
    (table : List Entry) : (table.map f).map Entry.identity = table.map Entry.identity := by
  simp [hf]

/-! ## INSERT (R26) -/

@[simp] theorem reduceMask_get (w : PerChan Window) (e : Entry) (c : Chan) :
    (reduceMask w e).get c = (e.seats.get c && (w.get c).contains e.point) := by cases c <;> rfl

/-- An entry whose mask the windows have reduced is well formed where a seat is left. -/
theorem wf_of_reduceMask {w : PerChan Window} {item : Entry}
    (seat : anySeat (reduceMask w item) = true) :
    { item with seats := reduceMask w item : Entry }.Wf w := by
  refine Entry.wf_iff.mpr ⟨seat, fun c hc => ?_⟩
  have inside : (item.seats.get c && (w.get c).contains item.point) = true := by
    rwa [← reduceMask_get]
  exact ((Bool.and_eq_true _ _).mp inside).2

theorem mergeEntry_identity (item : Entry) (mask : PerChan Bool) (e : Entry) :
    (mergeEntry item mask e).identity = e.identity := by
  unfold mergeEntry
  split <;> rfl

/-- A seat after a merge was the entry's own, or comes from an item of the entry's identity. -/
theorem mergeEntry_seat_iff {item e : Entry} {mask : PerChan Bool} {c : Chan} :
    (mergeEntry item mask e).seats.get c = true ↔
      e.seats.get c = true ∨ sameIdentity e item = true ∧ mask.get c = true := by
  unfold mergeEntry
  split
  · next same => cases c <;> simp [PerChan.get, same]
  · next other => simp [other]

/-- The merged seats lie inside their windows, since item and entry share their point. -/
theorem mergeEntry_wf {w : PerChan Window} {item e : Entry} (h : e.Wf w) :
    (mergeEntry item (reduceMask w item) e).Wf w := by
  obtain ⟨seat, inside⟩ := Entry.wf_iff.mp h
  obtain ⟨d, hd⟩ := anySeat_iff.mp seat
  refine Entry.wf_iff.mpr ⟨anySeat_iff.mpr ⟨d, mergeEntry_seat_iff.mpr (.inl hd)⟩, fun c hc => ?_⟩
  rw [point_eq_of_identity_eq (mergeEntry_identity item _ e)]
  rcases mergeEntry_seat_iff.mp hc with own | ⟨same, added⟩
  · exact inside c own
  · have samePoint := point_eq_of_identity_eq (sameIdentity_iff.mp same)
    rw [reduceMask_get, Bool.and_eq_true] at added
    exact samePoint ▸ added.2

theorem applyInsert_entriesWf (item : Entry) {b : BatchWork} (h : EntriesWf b.windows b.table) :
    EntriesWf (applyInsert item b).1.windows (applyInsert item b).1.table := by
  obtain ⟨entries, apart⟩ := h
  unfold applyInsert
  dsimp only
  split
  case isTrue => exact ⟨entries, apart⟩
  case isFalse seat =>
    split
    case isTrue =>
      refine ⟨fun e he => ?_, ?_⟩
      · obtain ⟨old, hold, rfl⟩ := List.mem_map.mp he
        exact mergeEntry_wf (entries old hold)
      · exact (map_identity_map (mergeEntry_identity item _) b.table).symm ▸ apart
    case isFalse unknown =>
      have fresh : item.identity ∉ b.table.map Entry.identity := by
        intro known
        obtain ⟨old, hold, eq⟩ := List.mem_map.mp known
        exact unknown (List.any_eq_true.mpr ⟨old, hold, sameIdentity_iff.mpr eq.symm⟩)
      refine ⟨fun e he => ?_, ?_⟩
      · rcases List.mem_append.mp he with old | new
        · exact entries e old
        · rw [List.mem_singleton.mp new]
          exact wf_of_reduceMask (by simpa using seat)
      · rw [List.map_append, List.map_singleton, ← List.concat_eq_append]
        exact apart.concat fresh

/-! ## EVICT (R28) -/

/-- What an EVICT leaves of an entry. -/
def stripSeat (c : Chan) (w : Window) (e : Entry) : Entry :=
  if losesBit c w e then { e with seats := e.seats.set c false } else e

theorem applyEvict_work (c : Chan) (w : Window) (b : BatchWork) :
    (applyEvict c w b).1 = { b with
      windows := b.windows.set c w
      table := (b.table.map (stripSeat c w)).filter fun e => anySeat e.seats } := rfl

theorem stripSeat_identity (c : Chan) (w : Window) (e : Entry) :
    (stripSeat c w e).identity = e.identity := by
  unfold stripSeat
  split <;> rfl

/-- The channel's own seat stands only inside the new window. -/
theorem stripSeat_seat_same {c : Chan} {w : Window} {e : Entry}
    (h : (stripSeat c w e).seats.get c = true) : w.contains e.point = true := by
  unfold stripSeat at h
  split at h
  · simp at h
  · next keeps => simpa [losesBit, h] using keeps

theorem stripSeat_seat_other {c d : Chan} (w : Window) (e : Entry) (other : d ≠ c) :
    (stripSeat c w e).seats.get d = e.seats.get d := by
  unfold stripSeat
  split
  · exact PerChan.get_set_other _ _ _ _ other
  · rfl

theorem stripSeat_wf {c : Chan} {w : Window} {ws : PerChan Window} {e : Entry} (h : e.Wf ws)
    (seat : anySeat (stripSeat c w e).seats = true) : (stripSeat c w e).Wf (ws.set c w) := by
  refine Entry.wf_iff.mpr ⟨seat, fun d hd => ?_⟩
  rw [point_eq_of_identity_eq (stripSeat_identity c w e)]
  by_cases own : d = c
  · subst own
    rw [PerChan.get_set_same]
    exact stripSeat_seat_same hd
  · rw [stripSeat_seat_other w e own] at hd
    rw [PerChan.get_set_other _ _ _ _ own]
    exact (Entry.wf_iff.mp h).2 d hd

theorem applyEvict_entriesWf (c : Chan) (w : Window) {b : BatchWork}
    (h : EntriesWf b.windows b.table) :
    EntriesWf (applyEvict c w b).1.windows (applyEvict c w b).1.table := by
  obtain ⟨entries, apart⟩ := h
  rw [applyEvict_work]
  refine ⟨fun e he => ?_, ?_⟩
  · obtain ⟨stripped, seat⟩ := List.mem_filter.mp he
    obtain ⟨old, hold, rfl⟩ := List.mem_map.mp stripped
    exact stripSeat_wf (entries old hold) seat
  · rw [← map_identity_map (stripSeat_identity c w)] at apart
    exact apart.sublist (List.filter_sublist.map _)

/-! ## A batch -/

theorem applyItem_entriesWf (k : EditKind) {b : BatchWork} (h : EntriesWf b.windows b.table) :
    EntriesWf (applyItem k b).1.windows (applyItem k b).1.table := by
  cases k with
  | insert e => exact applyInsert_entriesWf e h
  | remove handle kind => exact h.filter _
  | evict c w => exact applyEvict_entriesWf c w h
  | clear => exact entriesWf_nil _

theorem applyItems_entriesWf (items : List EditItem) {b : BatchWork}
    (h : EntriesWf b.windows b.table) :
    EntriesWf (applyItems items b).1.windows (applyItems items b).1.table := by
  induction items generalizing b with
  | nil => exact h
  | cons i rest ih => exact ih (applyItem_entriesWf i.kind h)

/-- The rest of a batch's completion leaves what its items made of the table and the windows. -/
theorem completeBatch_work (s : State) :
    let work := (applyItems s.stc.batch ⟨s.stc.table, s.stc.windows, s.stc.reserved⟩).1
    (completeBatch s).stc.table = work.table ∧ (completeBatch s).stc.windows = work.windows := by
  simp [completeBatch, passTurn, storeBatch]

theorem completeBatch_tableWf {s : State} (h : TableWf s) : TableWf (completeBatch s) := by
  obtain ⟨table, windows⟩ := completeBatch_work s
  rw [tableWf_iff] at h ⊢
  rw [table, windows]
  exact applyItems_entriesWf s.stc.batch h

/-! ## What leaves the table and the windows alone -/

/-- The part of the table controller that the invariant speaks of. -/
def tableAndWindows (s : State) : List Entry × PerChan Window := (s.stc.table, s.stc.windows)

theorem tableWf_of_tableAndWindows_eq {s t : State} (same : tableAndWindows t = tableAndWindows s)
    (h : TableWf s) : TableWf t := by
  obtain ⟨table, windows⟩ := Prod.mk.inj same
  rw [tableWf_iff] at h ⊢
  rwa [table, windows]

theorem tableAndWindows_of_stc_eq {s t : State} (h : t.stc = s.stc) :
    tableAndWindows t = tableAndWindows s := by
  simp [tableAndWindows, h]

@[simp] theorem joinItem_tableAndWindows (k : EditKind) (s : State) :
    tableAndWindows (joinItem k s) = tableAndWindows s := rfl

@[simp] theorem reserveSlot_tableAndWindows (s : State) :
    tableAndWindows (reserveSlot s) = tableAndWindows s := rfl

@[simp] theorem leaveTable_tableAndWindows (s : State) :
    tableAndWindows (leaveTable s) = tableAndWindows s := rfl

theorem startSearch_tableAndWindows (c : Chan) (s : State) :
    tableAndWindows (startSearch c s) = tableAndWindows s := by
  unfold startSearch
  split <;> rfl

theorem joinWaitingClear_tableAndWindows (s : State) :
    tableAndWindows (joinWaitingClear s) = tableAndWindows s := by
  unfold joinWaitingClear
  split
  · rfl
  · split <;> rfl

theorem startBatch_tableAndWindows (s : State) :
    tableAndWindows (startBatch s) = tableAndWindows s := by
  unfold startBatch
  split
  · rw [tableAndWindows_of_stc_eq (openWithheld_stc _), joinWaitingClear_tableAndWindows]
    rfl
  · rfl

@[simp] theorem recordStands_tableAndWindows (s : State) :
    tableAndWindows (recordStands s) = tableAndWindows s :=
  tableAndWindows_of_stc_eq (by simp)

@[simp] theorem endTablePhase_tableAndWindows (f : FaultCode) (s : State) :
    tableAndWindows (endTablePhase f s) = tableAndWindows s :=
  tableAndWindows_of_stc_eq (by simp)

theorem takeEntry_tableAndWindows (words : List Word) (s : State) :
    tableAndWindows (takeEntry words s) = tableAndWindows s := by
  unfold takeEntry
  split
  · simp
  · split <;> simp

theorem takeRemoval_tableAndWindows (words : List Word) (s : State) :
    tableAndWindows (takeRemoval words s) = tableAndWindows s := by
  unfold takeRemoval
  split <;> simp

theorem takeWindow_tableAndWindows (i : ParamBlock) (words : List Word) (s : State) :
    tableAndWindows (takeWindow i words s) = tableAndWindows s := by
  unfold takeWindow
  split <;> simp

theorem takeRecord_tableAndWindows (p : PortId) (c : Progress) (words : List Word) (s : State) :
    tableAndWindows (takeRecord p c words s) = tableAndWindows s := by
  unfold takeRecord
  split
  · exact takeEntry_tableAndWindows words s
  · exact takeRemoval_tableAndWindows words s
  · exact takeWindow_tableAndWindows c.input words s
  all_goals exact tableAndWindows_of_stc_eq (by simp)

theorem moveWordIn_tableAndWindows (p : PortId) (w : Word) (s : State) :
    tableAndWindows (moveWordIn p w s) = tableAndWindows s := by
  unfold moveWordIn
  split
  · rfl
  · dsimp only
    split
    · rfl
    · rw [takeRecord_tableAndWindows]
      rfl

theorem acceptClear_tableAndWindows (p : PortId) (i : ParamBlock) (s : State) :
    tableAndWindows (acceptClear p i s) = tableAndWindows s := by
  unfold acceptClear
  dsimp only
  split <;> rfl

theorem completeSearch_tableAndWindows (c : Chan) (s : State) :
    tableAndWindows (completeSearch c s) = tableAndWindows s := by
  unfold completeSearch
  split
  · rw [← leaveTable_tableAndWindows s]
    exact tableAndWindows_of_stc_eq (by simp)
  all_goals rfl

theorem abandon_tableAndWindows (p : PortId) (s : State) :
    tableAndWindows (abandon p s) = tableAndWindows s := by
  unfold abandon
  split
  · rfl
  · split
    · rfl
    · exact tableAndWindows_of_stc_eq (by simp)

theorem writeControl_tableAndWindows (p : PortId) (v : Byte) (s : State) :
    tableAndWindows (writeControl p v s) = tableAndWindows s := by
  unfold writeControl
  dsimp only
  split; · rfl
  split
  · split
    · rfl
    · rw [← abandon_tableAndWindows p s]
      rfl
  · split <;> rfl

/-- The issue of a command whose body leaves the table controller. -/
theorem issue_tableAndWindows {p : PortId} {op : Command} {body : ParamBlock → State → State}
    (s : State) (hb : ∀ i t, (body i t).stc = t.stc) :
    tableAndWindows (issue p op body s) = tableAndWindows s :=
  tableAndWindows_of_stc_eq (issue_field State.stc (fun _ _ => rfl) hb)

/-- A command on a named channel. -/
theorem issue_withChannel_tableAndWindows {p : PortId} {op : Command}
    {body : ParamBlock → Chan → State → State} (s : State)
    (hb : ∀ i c t, (body i c t).stc = t.stc) :
    tableAndWindows (issue p op (fun i => withChannel i (body i)) s) = tableAndWindows s :=
  issue_tableAndWindows s fun i t => withChannel_field State.stc i (body i) t (hb i)

/-- The table and the windows change at the completion of a batch and at the end of start-up alone. -/
theorem bodyOf_tableAndWindows (i : Instr) (s : State) (notBatch : i ≠ .batchCompletion)
    (notStartUp : i ≠ .endOfInitialization) :
    tableAndWindows (bodyOf i s) = tableAndWindows s := by
  cases i
  case batchCompletion => exact absurd rfl notBatch
  case endOfInitialization => exact absurd rfl notStartUp
  case clearTable p =>
    exact issue_field tableAndWindows (fun _ _ => rfl) (acceptClear_tableAndWindows p)
  case resetChannel | readCursor | armFigure | cancelFigure | releaseFigure | clearStall
      | setStation =>
    exact issue_withChannel_tableAndWindows s fun _ _ _ => by simp
  case loadCandidates | removeCandidates | setWindow | setGrid | setSnap | setRest | readPicks
      | flushPicks | setPickThreshold | clearLink | setView | setStyle | fetchOverlay | readEvents
      | clearEvents | setEventMask | setBurst | identify =>
    exact issue_tableAndWindows s fun _ _ => by simp
  case dataWrite p w =>
    dsimp only [bodyOf]
    split
    · exact moveWordIn_tableAndWindows p w s
    · rfl
  case portSoftReset p v | softResetRelease p v | commandAttentionEnable p v
      | attentionMode p v =>
    exact writeControl_tableAndWindows p v s
  case searchCompletion c => exact completeSearch_tableAndWindows c s
  case dataRead | dataPhaseTimeout | parameterWrite | reSearch =>
    dsimp only [bodyOf]
    split <;> exact tableAndWindows_of_stc_eq (by simp)
  all_goals exact tableAndWindows_of_stc_eq (by simp [bodyOf])

/-! ## Every step -/

theorem endStartUp_tableWf (s : State) : TableWf (endStartUp s) :=
  tableWf_iff.mpr (entriesWf_nil _)

theorem bodyOf_tableWf (i : Instr) {s : State} (h : TableWf s) : TableWf (bodyOf i s) := by
  by_cases batch : i = .batchCompletion
  · subst batch
    dsimp only [bodyOf]
    split
    · exact completeBatch_tableWf h
    · exact h
  by_cases startUp : i = .endOfInitialization
  · subst startUp
    dsimp only [bodyOf]
    split
    · exact endStartUp_tableWf s
    · exact h
  exact tableWf_of_tableAndWindows_eq (bodyOf_tableAndWindows i s batch startUp) h

theorem tableWf_keptByParts : KeptByParts TableWf where
  queue _ _ h := h
  attention _ _ h := h
  search c s h := tableWf_of_tableAndWindows_eq (startSearch_tableAndWindows c s) h
  batch s h := tableWf_of_tableAndWindows_eq (startBatch_tableAndWindows s) h
  reset _ := tableWf_iff.mpr (entriesWf_nil _)
  body i _ _ h := bodyOf_tableWf i h

/-- Settles O56: `TableWf` is kept by the parts of a step. Only a batch adds or changes entries, and
each kind of item keeps the entries well formed. -/
theorem stepKeepsTableEntries : Obligations.StepKeepsTableEntries :=
  fun _ _ => tableWf_keptByParts.step

end Sys2Proof.Machine
end

section
/-! The choice of the snapped point: candidates, the ranking and the previous hit (R48, R51, R52), the
window zone (R49), and the result by hit, constraint and grid (R53 to R55). -/
namespace Sys2Proof.Machine

/-! ## Candidates (R48, R51) -/

theorem eligible_iff {c : Chan} {i : Inputs} {e : Entry} :
    eligible c i e = true ↔ e.seats.get c = true ∧
      i.kinds.getLsbD (e.kind.code - 1) = true ∧ i.layers.getLsbD e.layer.toNat = true := by
  simp only [eligible, Bool.and_eq_true, and_assoc]

theorem mem_candidates_iff {c : Chan} {i : Inputs} {table : List Entry} {e : Entry} :
    e ∈ candidates c i table ↔
      (e ∈ table ∧ eligible c i e = true) ∧ distance e.point i.target ≤ i.rc := by
  simp only [candidates, List.mem_filter, Bool.and_eq_true, decide_eq_true_eq, and_assoc]

/-! ## The ranking (R52) -/

/-- On lists of one length the model's comparison is the library's lexicographic order, so the order laws
of the ranking need no proof of their own. -/
theorem keysLess_iff_lt : ∀ {as bs : List Int}, as.length = bs.length →
    (keysLess as bs = true ↔ as < bs)
  | [], [], _ => by simp [keysLess]
  | a :: as, b :: bs, same => by
    have tail := keysLess_iff_lt (Nat.succ.inj same)
    rw [List.cons_lt_cons_iff, ← tail, keysLess]
    rcases lt_trichotomy a b with less | equal | greater
    · simp [less]
    · simp [equal]
    · simp [greater, greater.not_gt, greater.ne']

theorem rankKeys_lt_iff {t : Point} {a b : Entry} :
    rankKeys t a < rankKeys t b ↔ ranksBefore t a b := by
  simp only [rankKeys, ranksBefore, List.cons_lt_cons_iff, Nat.cast_lt, Nat.cast_inj,
    List.not_lt_nil, and_false, or_false]

theorem snapKind_code_injective : Function.Injective SnapKind.code := fun k k' same =>
  Option.some.inj (by rw [← snapKind_ofCode_code k, same, snapKind_ofCode_code])

/-- Keys 3 to 6 are the identity of an entry. -/
theorem identity_eq_of_rankKeys_eq {t : Point} {a b : Entry} (h : rankKeys t a = rankKeys t b) :
    a.identity = b.identity := by
  simp only [rankKeys, List.cons.injEq, Nat.cast_inj, and_true] at h
  obtain ⟨-, -, handle, kind, x, y⟩ := h
  have point : a.point = b.point :=
    congrArg₂ Point.mk (BitVec.eq_of_toInt_eq x) (BitVec.eq_of_toInt_eq y)
  simp only [Entry.identity, BitVec.eq_of_toNat_eq handle, snapKind_code_injective kind, point]

theorem better_cases (t : Point) (a b : Entry) :
    (better t a b = a ∧ rankKeys t a ≤ rankKeys t b) ∨
    (better t a b = b ∧ rankKeys t b ≤ rankKeys t a) := by
  have lt_iff : keysLess (rankKeys t b) (rankKeys t a) = true ↔ rankKeys t b < rankKeys t a :=
    keysLess_iff_lt rfl
  unfold better
  split
  · next less => exact .inr ⟨rfl, (lt_iff.mp less).le⟩
  · next notLess => exact .inl ⟨rfl, not_lt.mp (mt lt_iff.mpr notLess)⟩

theorem bestOf_eq_none_iff {t : Point} {l : List Entry} : bestOf t l = none ↔ l = [] := by
  cases l with
  | nil => simp [bestOf]
  | cons e rest => simp only [bestOf]; split <;> simp

/-- The best member of a list is a member, and no member has smaller keys. -/
theorem bestOf_least {t : Point} : ∀ {l : List Entry} {best : Entry}, bestOf t l = some best →
    best ∈ l ∧ ∀ m ∈ l, rankKeys t best ≤ rankKeys t m
  | e :: rest, best, h => by
    simp only [bestOf] at h
    split at h
    · next noRest =>
      cases h
      simp [bestOf_eq_none_iff.mp noRest]
    · next b ofRest =>
      cases h
      obtain ⟨member, least⟩ := bestOf_least ofRest
      rcases better_cases t e b with ⟨takes, le⟩ | ⟨takes, le⟩
      · rw [takes]
        exact ⟨List.mem_cons_self,
          List.forall_mem_cons.mpr ⟨le_rfl, fun m hm => le.trans (least m hm)⟩⟩
      · rw [takes]
        exact ⟨List.mem_cons_of_mem e member, List.forall_mem_cons.mpr ⟨le, least⟩⟩

/-! ## The previous hit (R51) -/

/-- The entry is eligible and is the one that a previous hit `h` at `pt` names. -/
def answersTo (c : Chan) (i : Inputs) (h : Hit) (pt : Point) (e : Entry) : Bool :=
  eligible c i e && e.handle == h.handle && e.kind == h.kind && e.point == pt

theorem answersTo_iff {c : Chan} {i : Inputs} {h : Hit} {pt : Point} {e : Entry} :
    answersTo c i h pt e = true ↔ eligible c i e = true ∧ e.identity = (h.handle, h.kind, pt) := by
  simp [answersTo, Entry.identity, and_assoc]

theorem previousEntry_of_prev {c : Chan} {i : Inputs} {table : List Entry} {h : Hit} {pt : Point}
    (present : i.prev = some (h, pt)) :
    previousEntry c i table = table.find? (answersTo c i h pt) := by
  unfold previousEntry answersTo
  rw [present]

theorem prev_of_previousEntry {c : Chan} {i : Inputs} {table : List Entry} {e : Entry}
    (found : previousEntry c i table = some e) : ∃ h pt, i.prev = some (h, pt) := by
  unfold previousEntry at found
  split at found
  · cases found
  · next h pt present => exact ⟨h, pt, present⟩

theorem keepsPrevious_iff {c : Chan} {i : Inputs} {table : List Entry} {e : Entry} :
    keepsPrevious c i table e = true ↔ distance e.point i.target ≤ i.rr ∧
      ∀ m ∈ candidates c i table, ¬ m.cls.toNat < e.cls.toNat := by
  simp [keepsPrevious]

theorem chooseEntry_of_kept {c : Chan} {i : Inputs} {table : List Entry} {e : Entry}
    (previous : previousEntry c i table = some e) (keeps : keepsPrevious c i table e = true) :
    chooseEntry c i table = some e := by
  simp [chooseEntry, previous, keeps]

theorem chooseEntry_of_none_kept {c : Chan} {i : Inputs} {table : List Entry}
    (none_kept : ∀ e, previousEntry c i table = some e → ¬ keepsPrevious c i table e = true) :
    chooseEntry c i table = bestOf i.target (candidates c i table) := by
  unfold chooseEntry
  split
  · next e previous => rw [if_neg (none_kept e previous)]
  · rfl

section
variable {table : List Entry} (apart : table.Pairwise fun a b => sameIdentity a b = false)
include apart

/-- R16: the identity tells the entries of a table apart. -/
theorem eq_of_identity_eq {a b : Entry} (ha : a ∈ table) (hb : b ∈ table)
    (same : a.identity = b.identity) : a = b := by
  have nodup : (table.map Entry.identity).Nodup := by
    simpa only [List.Nodup, List.pairwise_map, sameIdentity_eq_false_iff] using apart
  exact List.inj_on_of_nodup_map nodup ha hb same

/-- At most one entry answers to the previous hit, so the first one found is the one it names. -/
theorem previousEntry_eq_some_iff {c : Chan} {i : Inputs} {e : Entry} :
    previousEntry c i table = some e ↔ (e ∈ table ∧ eligible c i e = true) ∧
      ∃ h pt, i.prev = some (h, pt) ∧ e.handle = h.handle ∧ e.kind = h.kind ∧ e.point = pt := by
  constructor
  · intro found
    obtain ⟨h, pt, present⟩ := prev_of_previousEntry found
    rw [previousEntry_of_prev present] at found
    obtain ⟨elig, identity⟩ := answersTo_iff.mp (List.find?_some found)
    simp only [Entry.identity, Prod.mk.injEq] at identity
    exact ⟨⟨List.mem_of_find?_eq_some found, elig⟩, h, pt, present, identity⟩
  · rintro ⟨⟨member, elig⟩, h, pt, present, handle, kind, point⟩
    have answers : answersTo c i h pt e = true :=
      answersTo_iff.mpr ⟨elig, by rw [Entry.identity, handle, kind, point]⟩
    obtain ⟨first, found⟩ := Option.isSome_iff_exists.mp
      (List.find?_isSome.mpr ⟨e, member, answers⟩)
    have same : first.identity = e.identity :=
      (answersTo_iff.mp (List.find?_some found)).2.trans (answersTo_iff.mp answers).2.symm
    rw [previousEntry_of_prev present, found,
      eq_of_identity_eq apart (List.mem_of_find?_eq_some found) member same]

/-- R52: no two candidates tie, so the best one ranks strictly before all others. -/
theorem bestOf_candidates_ranksBefore {c : Chan} {i : Inputs} {best m : Entry}
    (h : bestOf i.target (candidates c i table) = some best) (hm : m ∈ candidates c i table)
    (other : m ≠ best) : ranksBefore i.target best m := by
  obtain ⟨member, least⟩ := bestOf_least h
  have inTable {e : Entry} (he : e ∈ candidates c i table) : e ∈ table :=
    (mem_candidates_iff.mp he).1.1
  have keys_ne : rankKeys i.target best ≠ rankKeys i.target m := fun tie =>
    other (eq_of_identity_eq apart (inTable hm) (inTable member) (identity_eq_of_rankKeys_eq tie).symm)
  exact rankKeys_lt_iff.mp (lt_of_le_of_ne (least m hm) keys_ne)

end

/-- Settles O26: the kept entry is the one the previous hit names, and otherwise the choice is the least
candidate by the ranking keys. -/
theorem candidateChoiceFollowsRanking : Obligations.CandidateChoiceFollowsRanking := by
  unfold Obligations.CandidateChoiceFollowsRanking
  refine ⟨fun _ _ => rfl, ?_⟩
  intro c i table apart eligibleEntry candidate kept
  have candidate_iff : ∀ e, candidate e ↔ e ∈ candidates c i table := fun e => by
    simp only [candidate, eligibleEntry, mem_candidates_iff, eligible_iff]
  have kept_iff : ∀ e, kept e ↔
      previousEntry c i table = some e ∧ keepsPrevious c i table e = true := fun e => by
    simp only [kept, eligibleEntry, candidate_iff, previousEntry_eq_some_iff apart, keepsPrevious_iff,
      eligible_iff, and_assoc]
  refine ⟨fun e he => ?_, fun none_kept => ?_⟩
  · obtain ⟨previous, keeps⟩ := (kept_iff e).mp he
    exact chooseEntry_of_kept previous keeps
  · have choice : chooseEntry c i table = bestOf i.target (candidates c i table) :=
      chooseEntry_of_none_kept fun e previous keeps => none_kept e ((kept_iff e).mpr ⟨previous, keeps⟩)
    simp only [choice, candidate_iff]
    refine ⟨fun empty => bestOf_eq_none_iff.mpr (List.eq_nil_iff_forall_not_mem.mpr empty), ?_⟩
    rintro ⟨e, he⟩
    obtain ⟨best, found⟩ :=
      Option.ne_none_iff_exists'.mp (mt bestOf_eq_none_iff.mp (List.ne_nil_of_mem he))
    exact ⟨best, found, (bestOf_least found).1, fun m => bestOf_candidates_ranksBefore apart found⟩

/-! ## The window zone (R18, R49) -/

theorem zoneOf_of_contains {w : Window} {t : Point} (rc : Nat) (inside : w.contains t = true) :
    zoneOf w rc t = if w.depth t < 2 * (rc : Int) then .margin else .interior :=
  if_pos inside

theorem zoneOf_of_not_contains {w : Window} {t : Point} (rc : Nat) (out : w.contains t = false) :
    zoneOf w rc t = .outside :=
  if_neg (by simp [out])

theorem zoneOf_eq_outside_iff {w : Window} {rc : Nat} {t : Point} :
    zoneOf w rc t = .outside ↔ w.contains t = false := by
  cases h : w.contains t
  · simp [zoneOf_of_not_contains rc h]
  · rw [zoneOf_of_contains rc h]
    split <;> simp

theorem zoneOf_eq_margin_iff {w : Window} {rc : Nat} {t : Point} :
    zoneOf w rc t = .margin ↔ w.contains t = true ∧ w.depth t < 2 * (rc : Int) := by
  cases h : w.contains t
  · simp [zoneOf_of_not_contains rc h]
  · simp [zoneOf_of_contains rc h]

theorem zoneOf_eq_interior_iff {w : Window} {rc : Nat} {t : Point} :
    zoneOf w rc t = .interior ↔ w.contains t = true ∧ 2 * (rc : Int) ≤ w.depth t := by
  cases h : w.contains t
  · simp [zoneOf_of_not_contains rc h]
  · simp [zoneOf_of_contains rc h]

/-! ## The result (R50, R53 to R55) -/

theorem constrain_of_free {ortho : Bool} {ref : Option Point} (t : Point)
    (h : ortho = false ∨ ref = none) : constrain ortho ref t = (t, false) := by
  rcases h with rfl | rfl
  · rfl
  · cases ortho <;> rfl

/-- R54: the axis on which the target is farther from the ortho reference keeps its coordinate. -/
theorem constrain_some (a t : Point) :
    constrain true (some a) t =
      ((if (t.y.toInt - a.y.toInt).natAbs ≤ (t.x.toInt - a.x.toInt).natAbs then ⟨t.x, a.y⟩
        else ⟨a.x, t.y⟩), true) :=
  (apply_ite (fun q : Point => (q, true)) _ _ _).symm

@[simp] theorem resolveFree_zone (i : Inputs) (z : Zone) : (resolveFree i z).zone = z := by
  unfold resolveFree
  split <;> rfl

@[simp] theorem resolveFree_hit (i : Inputs) (z : Zone) : (resolveFree i z).hit = none := by
  unfold resolveFree
  split <;> rfl

@[simp] theorem resolveFree_orthoApplied (i : Inputs) (z : Zone) :
    (resolveFree i z).orthoApplied = (constrain i.ortho i.orthoRef i.target).2 := by
  unfold resolveFree
  split <;> rfl

theorem resolveFree_of_grid {i : Inputs} (z : Zone) (on : i.gridSnap = true)
    (present : i.grid.present = true) :
    (resolveFree i z).basis = .grid ∧
      (resolveFree i z).snapped = roundPoint i.grid (constrain i.ortho i.orthoRef i.target).1 := by
  simp [resolveFree, on, present]

theorem resolveFree_of_no_grid {i : Inputs} (z : Zone)
    (off : i.gridSnap = false ∨ i.grid.present = false) :
    (resolveFree i z).basis = .free ∧
      (resolveFree i z).snapped = (constrain i.ortho i.orthoRef i.target).1 := by
  rcases off with off | off <;> simp [resolveFree, off]

theorem resolve_of_choice {c : Chan} {i : Inputs} {stc : TableController} {e : Entry}
    (inside : (stc.windows.get c).contains i.target = true)
    (chosen : chooseEntry c i stc.table = some e) :
    resolve c i stc =
      { snapped := e.point, basis := .hit, orthoApplied := false
        zone := zoneOf (stc.windows.get c) i.rc i.target
        hit := some { handle := e.handle, kind := e.kind, cls := e.cls } } := by
  have notOutside : zoneOf (stc.windows.get c) i.rc i.target ≠ .outside := fun h =>
    Bool.noConfusion ((zoneOf_eq_outside_iff.mp h).symm.trans inside)
  simp only [resolve, if_neg notOutside, chosen]

theorem resolve_of_no_choice {c : Chan} {i : Inputs} {stc : TableController}
    (h : (stc.windows.get c).contains i.target = false ∨ chooseEntry c i stc.table = none) :
    resolve c i stc = resolveFree i (zoneOf (stc.windows.get c) i.rc i.target) := by
  rcases h with out | nothing
  · simp only [resolve, zoneOf_of_not_contains i.rc out, if_true]
  · simp only [resolve, nothing, ite_self]

/-- The zone is that of the target, whether there is a hit or not. -/
theorem resolve_zone (c : Chan) (i : Inputs) (stc : TableController) :
    (resolve c i stc).zone = zoneOf (stc.windows.get c) i.rc i.target := by
  cases inside : (stc.windows.get c).contains i.target
  · rw [resolve_of_no_choice (.inl inside), resolveFree_zone]
  · cases chosen : chooseEntry c i stc.table with
    | none => rw [resolve_of_no_choice (.inr chosen), resolveFree_zone]
    | some e => rw [resolve_of_choice inside chosen]

/-- Settles O27: one equation for the result with a hit and one without, where the constraint and the grid
act in turn. -/
theorem resultFollowsHitConstraintGrid : Obligations.ResultFollowsHitConstraintGrid := by
  unfold Obligations.ResultFollowsHitConstraintGrid
  refine ⟨fun _ _ _ _ _ => ⟨rfl, decide_eq_true_iff, rfl⟩, ?_⟩
  intro c i stc r w
  have zone : r.zone = zoneOf w i.rc i.target := resolve_zone c i stc
  rw [zone]
  refine ⟨zoneOf_eq_outside_iff, zoneOf_eq_margin_iff, zoneOf_eq_interior_iff, ?hit, ?free⟩
  case hit =>
    intro e inside chosen
    have result := resolve_of_choice inside chosen
    exact ⟨congrArg _ result, congrArg _ result, congrArg _ result, congrArg _ result⟩
  case free =>
    intro no_choice
    have result : r = resolveFree i (zoneOf w i.rc i.target) := resolve_of_no_choice no_choice
    rw [result, resolveFree_hit, resolveFree_orthoApplied]
    refine ⟨rfl, (constrain i.ortho i.orthoRef i.target).1, fun off => ?_, fun a on ref => ?_,
      fun ⟨on, present⟩ => ?_, fun off => ?_⟩
    · simp [constrain_of_free i.target off]
    · simp [on, ref, constrain_some]
    · exact resolveFree_of_grid _ on present
    · exact resolveFree_of_no_grid _ off

end Sys2Proof.Machine
end

section
/-! The presses that make no record (R96, R97, R99, R101 to R104). -/
namespace Sys2Proof.Machine

/-! ## Replacing a channel's state, changing its stage -/

@[simp] theorem PerChan.set_set {α : Type} (x : PerChan α) (c : Chan) (v w : α) :
    (x.set c v).set c w = x.set c w := by cases c <;> rfl

theorem setChan_setChan (s : State) (c : Chan) (v w : Channel) :
    (s.setChan c v).setChan c w = s.setChan c w := by simp [State.setChan]

theorem updChan_updChan (s : State) (c : Chan) (f g : Channel → Channel) :
    (s.updChan c f).updChan c g = s.updChan c (g ∘ f) := by
  simp [State.updChan, setChan_setChan]

theorem setStage_of_ne {c : Chan} {st : Stage} {s : State} (h : (s.chan c).stage ≠ st) :
    setStage c st s = raise (.stageChanged c) (s.updChan c fun ch => { ch with stage := st }) := by
  simp [setStage, raiseIf, h]

/-! ## The sequence error (R103), the press slot (R104) -/

theorem sequenceError_of_not_stalled {c : Chan} {s : State} (ret : ReturnStage)
    (h : (s.chan c).stage ≠ .stalled) :
    sequenceError c ret s = raise (.seqError c) (raise (.stageChanged c) (s.setChan c
      { s.chan c with stage := .stalled, saved := none, ret := some ret })) := by
  have unchanged :
      ((s.updChan c fun ch => { ch with ret := some ret, saved := none }).chan c).stage ≠ .stalled := by
    simpa using h
  rw [sequenceError, setStage_of_ne unchanged, updChan_updChan]
  rfl

theorem savePress_of_slot_empty {c : Chan} {s : State} (p : Press) (h : (s.chan c).saved = none) :
    savePress c p s = s.setChan c { s.chan c with saved := some p } := by
  simp only [savePress, h, State.updChan]

theorem savePress_of_slot_full {c : Chan} {s : State} (p : Press) (h : (s.chan c).saved ≠ none) :
    savePress c p s = raise (.pressDiscarded c) s := by
  obtain ⟨q, saved⟩ := Option.ne_none_iff_exists'.mp h
  simp only [savePress, saved, discardPress]

/-! ## Which presses make no record -/

/-- A FINISH cannot complete the figure: it completes only a POLYLINE of two anchors or more (R99). -/
def cannotFinish (ch : Channel) : Prop := ch.template ≠ .polyline ∨ ch.anchors.length ≤ 1

theorem pressRecord_banding_finish_eq_none_iff {ch : Channel} (h : ch.stage = .banding) :
    pressRecord ch .finish = none ↔ cannotFinish ch := by
  simp only [pressRecord, h, cannotFinish, ite_eq_right_iff, reduceCtorEq, imp_false]
  rw [not_and_or, not_le, Nat.lt_succ_iff]

theorem pressRecord_eq_none_iff (ch : Channel) (p : Press) :
    pressRecord ch p = none ↔
      (ch.stage = .idle ∧ p ≠ .pick) ∨ (ch.stage = .armed ∧ p ≠ .pick) ∨ ch.stage = .hold ∨
      ch.stage = .stalled ∨ (p = .finish ∧ ch.stage = .banding ∧ cannotFinish ch) := by
  cases stage : ch.stage with
  | idle | armed => cases p <;> simp [pressRecord, stage]
  | hold | stalled => simp [pressRecord, stage]
  | banding =>
    cases p with
    | finish => simpa using pressRecord_banding_finish_eq_none_iff stage
    | pick | cancel => simp [pressRecord, stage, ite_eq_iff]

theorem handlePress_of_no_record {c : Chan} {p : Press} {s : State}
    (h : pressRecord (s.chan c) p = none) : handlePress c p s = pressWithoutRecord c p s := by
  simp only [handlePress, h]

/-! ## What such a press does in each stage -/

theorem handlePress_idle {c : Chan} {p : Press} {s : State} (stage : (s.chan c).stage = .idle)
    (other : p ≠ .pick) : handlePress c p s = s := by
  rw [handlePress_of_no_record ((pressRecord_eq_none_iff _ _).mpr (.inl ⟨stage, other⟩))]
  simp only [pressWithoutRecord, stage]

theorem handlePress_armed_cancel {c : Chan} {s : State} (stage : (s.chan c).stage = .armed) :
    handlePress c .cancel s = s := by
  rw [handlePress_of_no_record
    ((pressRecord_eq_none_iff _ _).mpr (.inr (.inl ⟨stage, Press.noConfusion⟩)))]
  simp only [pressWithoutRecord, stage]

theorem handlePress_armed_finish {c : Chan} {s : State} (stage : (s.chan c).stage = .armed) :
    handlePress c .finish s = sequenceError c .armed s := by
  rw [handlePress_of_no_record
    ((pressRecord_eq_none_iff _ _).mpr (.inr (.inl ⟨stage, Press.noConfusion⟩)))]
  simp only [pressWithoutRecord, stage]

theorem handlePress_banding_finish {c : Chan} {s : State} (stage : (s.chan c).stage = .banding)
    (cannot : cannotFinish (s.chan c)) : handlePress c .finish s = sequenceError c .banding s := by
  rw [handlePress_of_no_record ((pressRecord_banding_finish_eq_none_iff stage).mpr cannot)]
  simp only [pressWithoutRecord, stage]

theorem handlePress_hold {c : Chan} {s : State} (p : Press) (stage : (s.chan c).stage = .hold) :
    handlePress c p s = raise (.pressDiscarded c) s := by
  rw [handlePress_of_no_record ((pressRecord_eq_none_iff _ _).mpr (.inr (.inr (.inl stage))))]
  simp only [pressWithoutRecord, stage, discardPress]

theorem handlePress_stalled {c : Chan} {s : State} (p : Press) (stage : (s.chan c).stage = .stalled) :
    handlePress c p s = savePress c p s := by
  rw [handlePress_of_no_record ((pressRecord_eq_none_iff _ _).mpr (.inr (.inr (.inr (.inl stage)))))]
  simp only [pressWithoutRecord, stage]

/-- Settles O36, stage by stage; the stage a FINISH stalls from is its return stage. -/
theorem pressesThatMakeNoRecord : Obligations.PressesThatMakeNoRecord := by
  unfold Obligations.PressesThatMakeNoRecord
  intro c p s ch
  refine ⟨handlePress_idle, ?armedCancel, ?sequenceError, handlePress_hold p,
    (pressRecord_eq_none_iff ch p).mpr, fun stage => ⟨fun empty => ?saved, fun full => ?discarded⟩⟩
  case armedCancel =>
    rintro stage rfl
    exact handlePress_armed_cancel stage
  case sequenceError =>
    rintro rfl (stage | ⟨stage, cannot⟩)
    · rw [handlePress_armed_finish stage, sequenceError_of_not_stalled _ (by simp [ch, stage])]
      simp [ch, stage]
    · rw [handlePress_banding_finish stage cannot, sequenceError_of_not_stalled _ (by simp [ch, stage])]
      simp [ch, stage]
  case saved => rw [handlePress_stalled p stage, savePress_of_slot_empty p empty]
  case discarded => rw [handlePress_stalled p stage, savePress_of_slot_full p full]

end Sys2Proof.Machine
end

section
/-! An offer to the Pick Queue (R115, R116, R118). -/
namespace Sys2Proof.Machine

/-! ## What a raise under a condition and a true PICK_AVAILABLE condition leave of a port -/

theorem raiseIf_eq_with_ports (b : Bool) (e : Event) (s : State) :
    raiseIf b e s = { s with ports := (raiseIf b e s).ports } := by cases b <;> rfl

theorem port_raiseIf_eq_with_latched (b : Bool) (e : Event) (s : State) (p : PortId) :
    (raiseIf b e s).port p =
      { s.port p with latched := ((raiseIf b e s).port p).latched } := by
  cases b <;> cases p <;> rfl

theorem isIn_withPickAvailable_true (e : Event) (set : EventSet) :
    e.isIn (withPickAvailable true set) = true ↔ e.isIn set = true ∨ e = .pickAvailable := by
  have latched := isIn_toSet e .pickAvailable
  simp only [Event.isIn] at latched
  simp only [withPickAvailable, if_true, Event.isIn, BitVec.getLsbD_or, Bool.or_eq_true, latched,
    decide_eq_true_eq]

/-! ## The record joins the queue -/

/-- The state after a record has joined at the tail, before PICK_NEAR_FULL is looked at (R115, R118). -/
def joinPick (r : PickRecord) (s : State) : State :=
  followPicks { s with picks := { s.picks with records := s.picks.records ++ [r] } }

theorem joinPick_eq (r : PickRecord) (s : State) :
    joinPick r s = { s with
      ports := (joinPick r s).ports, pickRaw := true,
      picks := { s.picks with records := s.picks.records ++ [r] } } := by
  simp [joinPick, followPicks]

theorem port_joinPick (r : PickRecord) (s : State) (p : PortId) :
    (joinPick r s).port p =
      { s.port p with latched := withPickAvailable true (s.port p).latched } := by
  have holds_one : (!(s.picks.records ++ [r]).isEmpty) = true := by simp
  rw [joinPick, port_followPicks, holds_one]
  rfl

/-! ## The two answers to an offer -/

theorem picksHaveRoom_iff (s : State) :
    picksHaveRoom s = true ↔ s.picks.records.length < 32 := decide_eq_true_iff

theorem offerPick_of_room {s : State} (r : PickRecord) (room : s.picks.records.length < 32) :
    offerPick r s = raiseIf (s.picks.records.length + 1 == s.picks.threshold.toNat) .pickNearFull
      (joinPick r s) := by
  rw [offerPick, if_pos ((picksHaveRoom_iff s).mpr room), joinPick]

theorem offerPick_of_full {s : State} (r : PickRecord) (full : 32 ≤ s.picks.records.length) :
    offerPick r s = raise .pickRefused s := by
  rw [offerPick, if_neg (mt (picksHaveRoom_iff s).mp (Nat.not_lt.mpr full))]

theorem isIn_offerPick_of_room {s : State} (r : PickRecord) (room : s.picks.records.length < 32)
    (p : PortId) (e : Event) :
    e.isIn ((offerPick r s).port p).latched = true ↔ (e.isIn (s.port p).latched = true ∨
      e = .pickAvailable ∨
      (e = .pickNearFull ∧ s.picks.records.length + 1 = s.picks.threshold.toNat)) := by
  rw [offerPick_of_room r room, isIn_raiseIf, port_joinPick, isIn_withPickAvailable_true, beq_iff_eq,
    or_assoc]

/-- Settles O34: with room the record joins and PICK_NEAR_FULL is raised under its condition; a full
queue's offer is the raise of PICK_REFUSED alone. -/
theorem pickOfferAcceptsOrRefuses : Obligations.PickOfferAcceptsOrRefuses := by
  unfold Obligations.PickOfferAcceptsOrRefuses
  refine fun r s => ⟨fun room => ⟨?state, fun p => ⟨?port, isIn_offerPick_of_room r room p⟩⟩,
    offerPick_of_full r⟩
  case state =>
    rw [offerPick_of_room r room, raiseIf_eq_with_ports, joinPick_eq]
  case port =>
    rw [offerPick_of_room r room, port_raiseIf_eq_with_latched, port_joinPick]

end Sys2Proof.Machine
end

section
/-! The part right after device reset meets every invariant. -/
namespace Sys2Proof.Machine

theorem reset_portsWf : PortsWf .reset := by
  simp [PortsWf, PortState.Wf, State.reset, PortState.reset]

theorem reset_attentionWf : AttentionWf .reset := by
  have off : PortState.reset.AttnWf := ⟨⟨fun _ => rfl, fun _ => rfl⟩, fun _ => AttnOut.noConfusion⟩
  exact ⟨off, off⟩

theorem reset_picksWf : PicksWf .reset := ⟨Nat.zero_le _, rfl, rfl, rfl⟩

theorem reset_eventSetsWf : EventSetsWf .reset := by
  have empty : PortState.reset.SetsWf := ⟨rfl, rfl, rfl, rfl⟩
  exact ⟨empty, empty⟩

theorem reset_turnsWf : TurnsWf .reset :=
  ⟨rfl, Access.noConfusion, fun _ => rfl, Access.noConfusion, fun _ => ⟨rfl, rfl⟩⟩

theorem reset_editQueueWf : EditQueueWf .reset := ⟨Nat.zero_le _, Bool.noConfusion⟩

theorem reset_capacityWf : CapacityWf .reset := ⟨rfl, Nat.zero_le _⟩

theorem reset_tableWf : TableWf .reset := ⟨fun _ he => absurd he List.not_mem_nil, .nil⟩

theorem reset_channel_queueWf : Channel.reset.QueueWf := ⟨Nat.zero_le _, rfl⟩

theorem reset_channel_stateWf : Channel.reset.StateWf := by
  simp [Channel.StateWf, Channel.reset]

theorem reset_cursorWf : CursorRecord.reset.Wf := by
  simp [CursorRecord.Wf, CursorRecord.reset]

theorem reset_channel_figureWf : Channel.reset.FigureWf := ⟨rfl, rfl, rfl, rfl, rfl, rfl⟩

theorem reset_overlayWf : OverlayWf .reset :=
  ⟨.inl List.mem_cons_self, Bool.noConfusion, trivial, trivial⟩

theorem reset_linkWf : LinkWf .reset := ⟨Nat.zero_le _, rfl, fun _ => ⟨rfl, rfl⟩⟩

theorem reset_viewWf : State.reset.view.Wf := ⟨by decide, by decide, by decide⟩

theorem reset_gridWf : State.reset.grid.Wf := ⟨by decide, by decide⟩

/-- Settles O52: each block's reset state meets its invariant. -/
theorem resetStateIsWellFormed : Obligations.ResetStateIsWellFormed :=
  ⟨reset_portsWf, reset_attentionWf, reset_picksWf, reset_eventSetsWf, reset_turnsWf,
    reset_editQueueWf, reset_capacityWf, reset_tableWf,
    ⟨reset_channel_queueWf, reset_channel_queueWf⟩, ⟨reset_channel_stateWf, reset_channel_stateWf⟩,
    ⟨reset_cursorWf, reset_cursorWf⟩, ⟨reset_channel_figureWf, reset_channel_figureWf⟩,
    reset_overlayWf, reset_linkWf, reset_viewWf, reset_gridWf⟩

end Sys2Proof.Machine
end

section
/-! The overlay buffers keep to the configurations of R127: each operation is followed on the states of the
two buffers and swap-pending, which are finitely many. -/
namespace Sys2Proof.Machine

/-! ## The configuration of an Overlay Builder -/

/-- What R127 speaks of: the states of both buffers, and swap-pending. -/
structure BufferConfig where
  x : BufferState
  y : BufferState
  swapPending : Bool

/-- One of the configurations of R127, swap-pending set only where a READY buffer waits behind a pin. -/
def BufferConfig.Ok (k : BufferConfig) : Prop :=
  ((k.x, k.y) ∈ bufferPairs ∨ (k.y, k.x) ∈ bufferPairs) ∧
  (k.swapPending = true →
    (k.x = .frontPinned ∨ k.y = .frontPinned) ∧ (k.x = .ready ∨ k.y = .ready))

def Overlay.config (o : Overlay) : BufferConfig := ⟨o.bufX.state, o.bufY.state, o.swapPending⟩

/-- Both buffers hold frames within the budget of R141. -/
def Overlay.FramesWf (o : Overlay) : Prop := o.bufX.FrameWf ∧ o.bufY.FrameWf

theorem anyPinned_iff (o : Overlay) :
    anyPinned o = true ↔ o.config.x = .frontPinned ∨ o.config.y = .frontPinned := by
  rcases o with ⟨x, y, _, _, _⟩
  cases x <;> cases y <;> simp [anyPinned, Buffer.pinnedFrame, Overlay.config, Buffer.state]

theorem anyReady_iff (o : Overlay) :
    anyReady o = true ↔ o.config.x = .ready ∨ o.config.y = .ready := by
  rcases o with ⟨x, y, _, _, _⟩
  cases x <;> cases y <;> simp [anyReady, Buffer.readyFrame, Overlay.config, Buffer.state]

theorem anyBuilding_iff (o : Overlay) :
    anyBuilding o = true ↔ o.config.x = .building ∨ o.config.y = .building := by
  rcases o with ⟨x, y, _, _, _⟩
  cases x <;> cases y <;> simp [anyBuilding, Buffer.isBuilding, Overlay.config, Buffer.state]

theorem overlayWf_iff {s : State} :
    OverlayWf s ↔ s.overlay.config.Ok ∧ s.overlay.FramesWf := by
  simp only [OverlayWf, BufferConfig.Ok, anyPinned_iff, anyReady_iff, Overlay.FramesWf, and_assoc]
  rfl

theorem overlayWf_of_overlay_eq {s t : State} (same : t.overlay = s.overlay) (h : OverlayWf s) :
    OverlayWf t := by
  rw [overlayWf_iff] at h ⊢
  rwa [same]

/-! ## What each operation makes of the configuration -/

/-- A swap on the state of a buffer. -/
def BufferState.swapped : BufferState → BufferState
  | .ready => .front
  | .front | .frontPinned | .free => .free
  | .building => .building

/-- A release without a swap, on the state of a buffer. -/
def BufferState.unpinned : BufferState → BufferState
  | .frontPinned => .front
  | k => k

/-- The acceptance of a fetch, on the state of a buffer. -/
def BufferState.pinned : BufferState → BufferState
  | .front => .frontPinned
  | k => k

/-- The completion of a build, on the state of a buffer. -/
def BufferState.finished : BufferState → BufferState
  | .building => .ready
  | k => k

/-- The same change on both buffers. -/
def BufferConfig.map (f : BufferState → BufferState) (k : BufferConfig) : BufferConfig :=
  { k with x := f k.x, y := f k.y }

/-- The start of a build. -/
def BufferConfig.built (k : BufferConfig) : BufferConfig :=
  if k.x = .free then { k with x := .building }
  else if k.y = .free then { k with y := .building }
  else k

theorem swapBuffer_state (b : Buffer) : (swapBuffer b).state = b.state.swapped := by cases b <;> rfl

theorem unpinBuffer_state (b : Buffer) : (unpinBuffer b).state = b.state.unpinned := by
  cases b <;> rfl

theorem pinBuffer_state (b : Buffer) : (pinBuffer b).state = b.state.pinned := by cases b <;> rfl

theorem finishBuffer_state (b : Buffer) : (finishBuffer b).state = b.state.finished := by
  cases b <;> rfl

theorem buffer_eq_free_iff (b : Buffer) : b = .free ↔ b.state = .free := by
  cases b <;> simp [Buffer.state]

theorem startBuild_config (s : State) : (startBuild s).overlay.config = s.overlay.config.built := by
  unfold startBuild BufferConfig.built
  simp only [buffer_eq_free_iff]
  change _ = if s.overlay.bufX.state = .free then _ else if s.overlay.bufY.state = .free then _ else _
  split
  · rfl
  · split <;> rfl

theorem swap_config (s : State) : (swap s).overlay.config = s.overlay.config.map .swapped := by
  simp only [swap, Overlay.config, BufferConfig.map, swapBuffer_state]

/-! ## What each operation makes of the frames -/

theorem startBuild_framesWf {s : State} (h : s.overlay.FramesWf) :
    (startBuild s).overlay.FramesWf := by
  obtain ⟨x, y⟩ := h
  unfold startBuild
  dsimp only
  split
  · exact ⟨trivial, y⟩
  · split
    · exact ⟨x, trivial⟩
    · exact ⟨x, y⟩

theorem swapBuffer_frameWf {b : Buffer} (h : b.FrameWf) : (swapBuffer b).FrameWf := by
  cases b <;> first | exact h | exact trivial

theorem unpinBuffer_frameWf {b : Buffer} (h : b.FrameWf) : (unpinBuffer b).FrameWf := by
  cases b <;> exact h

theorem pinBuffer_frameWf {b : Buffer} (h : b.FrameWf) : (pinBuffer b).FrameWf := by
  cases b <;> exact h

/-- A finished frame is within the budget by its assembly (R141). -/
theorem assemble_strokes_length_le (n : Snapshot) :
    (assemble n).strokes.length ≤ Config.frameStrokes := List.length_take_le _ _

theorem finishBuffer_frameWf {b : Buffer} (h : b.FrameWf) : (finishBuffer b).FrameWf := by
  cases b with
  | building n => exact assemble_strokes_length_le n
  | free | ready | front | frontPinned => exact h

/-! ## The operations keep the configuration -/

/-- A swap brings the READY buffer to the front and leaves the other FREE for the build that follows. -/
theorem swapped_built_ok {k : BufferConfig} (h : k.Ok) (ready : k.x = .ready ∨ k.y = .ready) :
    BufferConfig.Ok (BufferConfig.built { k.map .swapped with swapPending := false }) := by
  rcases k with ⟨x, y, p⟩
  cases x <;> cases y <;>
    simp_all [BufferConfig.Ok, bufferPairs, BufferConfig.map, BufferConfig.built,
      BufferState.swapped]

/-- Where nothing is READY or BUILDING, both buffers are FREE, and a build starts into the first. -/
theorem built_ok {k : BufferConfig} (h : k.Ok) (notReady : ¬ (k.x = .ready ∨ k.y = .ready))
    (notBuilding : ¬ (k.x = .building ∨ k.y = .building)) : k.built.Ok := by
  rcases k with ⟨x, y, p⟩
  cases x <;> cases y <;> simp_all [BufferConfig.Ok, bufferPairs, BufferConfig.built]

theorem unpinned_ok {k : BufferConfig} (h : k.Ok) (noSwap : k.swapPending = false) :
    (k.map .unpinned).Ok := by
  rcases k with ⟨x, y, p⟩
  cases x <;> cases y <;>
    simp_all [BufferConfig.Ok, bufferPairs, BufferConfig.map, BufferState.unpinned]

theorem pinned_ok {k : BufferConfig} (h : k.Ok) : (k.map .pinned).Ok := by
  rcases k with ⟨x, y, p⟩
  cases x <;> cases y <;>
    simp_all [BufferConfig.Ok, bufferPairs, BufferConfig.map, BufferState.pinned]

theorem finished_ok {k : BufferConfig} (h : k.Ok) : (k.map .finished).Ok := by
  rcases k with ⟨x, y, p⟩
  cases x <;> cases y <;>
    simp_all [BufferConfig.Ok, bufferPairs, BufferConfig.map, BufferState.finished]

theorem swap_startBuild_overlayWf {s : State} (h : OverlayWf s) (ready : anyReady s.overlay = true)
    {t : State} (swapped : t.overlay = { (swap s).overlay with swapPending := false }) :
    OverlayWf (startBuild t) := by
  obtain ⟨ok, x, y⟩ := overlayWf_iff.mp h
  refine overlayWf_iff.mpr ⟨?_, startBuild_framesWf ?_⟩
  · have config : t.overlay.config = { s.overlay.config.map .swapped with swapPending := false } := by
      rw [swapped, ← swap_config]; rfl
    rw [startBuild_config, config]
    exact swapped_built_ok ok ((anyReady_iff _).mp ready)
  · rw [swapped]
    exact ⟨swapBuffer_frameWf x, swapBuffer_frameWf y⟩

theorem frameSync_overlayWf {s : State} (h : OverlayWf s) : OverlayWf (frameSync s) := by
  obtain ⟨ok, frames⟩ := overlayWf_iff.mp h
  unfold frameSync
  dsimp only
  split
  case isTrue ready =>
    split
    case isTrue pinned =>
      exact overlayWf_iff.mpr ⟨⟨ok.1, fun _ => ⟨(anyPinned_iff _).mp pinned,
        (anyReady_iff _).mp ready⟩⟩, frames⟩
    case isFalse notPinned =>
      have noSwap : s.overlay.swapPending = false := by
        by_contra pending
        exact notPinned ((anyPinned_iff _).mpr (ok.2 (Bool.not_eq_false _ ▸ pending)).1)
      exact swap_startBuild_overlayWf h ready (by simp [swap, noSwap])
  case isFalse notReady =>
    split
    case isTrue => exact h
    case isFalse notBuilding =>
      refine overlayWf_iff.mpr ⟨?_, startBuild_framesWf frames⟩
      rw [raise_overlay, startBuild_config]
      exact built_ok ok (mt (anyReady_iff _).mpr notReady) (mt (anyBuilding_iff _).mpr notBuilding)

theorem releasePin_overlayWf {s : State} (h : OverlayWf s) : OverlayWf (releasePin s) := by
  obtain ⟨ok, x, y⟩ := overlayWf_iff.mp h
  unfold releasePin
  split
  case isTrue swaps =>
    have pending : s.overlay.swapPending = true := ((Bool.and_eq_true _ _).mp swaps).1
    exact swap_startBuild_overlayWf h ((anyReady_iff _).mpr (ok.2 pending).2) rfl
  case isFalse noSwap =>
    refine overlayWf_iff.mpr ⟨?_, unpinBuffer_frameWf x, unpinBuffer_frameWf y⟩
    have notPending : s.overlay.config.swapPending = false := by
      by_contra pending
      have set : s.overlay.swapPending = true := Bool.not_eq_false _ ▸ pending
      exact noSwap ((Bool.and_eq_true _ _).mpr ⟨set, (anyPinned_iff _).mpr (ok.2 set).1⟩)
    have := unpinned_ok ok notPending
    simpa only [Overlay.config, BufferConfig.map, unpinBuffer_state] using this

theorem completeBuild_overlayWf {s : State} (h : OverlayWf s) : OverlayWf (completeBuild s) := by
  obtain ⟨ok, x, y⟩ := overlayWf_iff.mp h
  refine overlayWf_of_overlay_eq (raiseIf_frame _ _ _).2.2.2.2.2.1
    (overlayWf_iff.mpr ⟨?_, finishBuffer_frameWf x, finishBuffer_frameWf y⟩)
  have := finished_ok ok
  simpa only [Overlay.config, BufferConfig.map, finishBuffer_state] using this

theorem acceptFetch_overlayWf {p : PortId} {i : ParamBlock} {s : State} (h : OverlayWf s) :
    OverlayWf (acceptFetch p i s) := by
  obtain ⟨ok, x, y⟩ := overlayWf_iff.mp h
  unfold acceptFetch
  split
  · refine overlayWf_iff.mpr ⟨?_, ?_⟩
    · have := pinned_ok ok
      simpa [Overlay.config, BufferConfig.map, pinBuffer_state] using this
    · simpa [Overlay.FramesWf] using And.intro (pinBuffer_frameWf x) (pinBuffer_frameWf y)
  · exact overlayWf_of_overlay_eq (by simp) h

/-! ## The reads and ends of a fetch -/

theorem releaseFor_overlayWf (op : Command) {s : State} (h : OverlayWf s) :
    OverlayWf (releaseFor op s) := by
  unfold releaseFor
  split
  · exact releasePin_overlayWf h
  · exact h

theorem timeOut_overlayWf (p : PortId) {s : State} (h : OverlayWf s) : OverlayWf (timeOut p s) := by
  unfold timeOut
  split
  · exact h
  · split
    · exact overlayWf_of_overlay_eq (by simp) h
    · exact overlayWf_of_overlay_eq (complete_overlay ..) (releaseFor_overlayWf _ h)

theorem frameRecordRead_overlayWf (p : PortId) {s : State} (h : OverlayWf s) :
    OverlayWf (frameRecordRead p s) := by
  have counted : OverlayWf (countRecord p s) := overlayWf_of_overlay_eq (by simp) h
  unfold frameRecordRead
  dsimp only
  split
  · exact counted
  · split
    · exact overlayWf_of_overlay_eq (by simp) (releasePin_overlayWf counted)
    · split
      · exact overlayWf_of_overlay_eq (by simp) h
      · exact counted

theorem moveWordOut_overlayWf (p : PortId) {s : State} (h : OverlayWf s) :
    OverlayWf (moveWordOut p s) := by
  unfold moveWordOut
  split
  · exact h
  · dsimp only
    split
    · unfold recordRead
      split
      case h_2 => exact frameRecordRead_overlayWf p (overlayWf_of_overlay_eq rfl h)
      all_goals exact overlayWf_of_overlay_eq (by simp) h
    · exact overlayWf_of_overlay_eq rfl h

theorem writeControl_overlayWf (p : PortId) (v : Byte) {s : State} (h : OverlayWf s) :
    OverlayWf (writeControl p v s) := by
  have abandoned : OverlayWf (abandon p s) := by
    unfold abandon
    split
    · exact h
    · split
      · exact h
      · exact releaseFor_overlayWf _ h
  unfold writeControl
  dsimp only
  split; · exact h
  split
  · split
    · exact h
    · exact abandoned
  · split <;> exact h

/-! ## Every step -/

/-- The issue of a command whose body leaves the overlay, or changes its style alone. -/
theorem issue_overlayWf {p : PortId} {op : Command} {body : ParamBlock → State → State} {s : State}
    (h : OverlayWf s) (hb : ∀ i t, OverlayWf t → OverlayWf (body i t)) :
    OverlayWf (issue p op body s) :=
  issue_keeps h (fun _ h => h) (fun _ _ _ h => h) fun _ _ _ => hb _ _ h

theorem withChannel_overlayWf {i : ParamBlock} {body : Chan → State → State} {s : State}
    (h : OverlayWf s) (hb : ∀ c t, (body c t).overlay = t.overlay) :
    OverlayWf (withChannel i body s) :=
  overlayWf_of_overlay_eq (withChannel_field State.overlay i body s hb) h

theorem bodyOf_overlayWf (i : Instr) {s : State} (h : OverlayWf s) : OverlayWf (bodyOf i s) := by
  cases i
  case fsync => exact frameSync_overlayWf h
  case buildCompletion => exact completeBuild_overlayWf h
  case fetchOverlay p => exact issue_overlayWf h fun _ _ => acceptFetch_overlayWf
  case setStyle p => exact issue_overlayWf h fun _ _ h => h
  case resetChannel | readCursor | armFigure | cancelFigure | releaseFigure | clearStall
      | setStation =>
    exact issue_overlayWf h fun _ _ h => withChannel_overlayWf h fun _ _ => by simp
  case loadCandidates | removeCandidates | setWindow | clearTable | setGrid | setSnap | setRest
      | readPicks | flushPicks | setPickThreshold | clearLink | setView | readEvents
      | clearEvents | setEventMask | setBurst | identify =>
    exact issue_overlayWf h fun _ _ => overlayWf_of_overlay_eq (by simp)
  case portSoftReset p v | softResetRelease p v | commandAttentionEnable p v
      | attentionMode p v =>
    exact writeControl_overlayWf p v h
  case dataRead p =>
    dsimp only [bodyOf]
    split
    · exact moveWordOut_overlayWf p h
    · exact h
  case dataPhaseTimeout p =>
    dsimp only [bodyOf]
    split
    · exact timeOut_overlayWf p h
    · exact h
  case dataWrite | parameterWrite | endOfInitialization | batchCompletion | reSearch =>
    dsimp only [bodyOf]
    split <;> exact overlayWf_of_overlay_eq (by simp) h
  all_goals exact overlayWf_of_overlay_eq (by simp [bodyOf]) h

theorem overlayWf_keptByParts : KeptByParts OverlayWf where
  queue _ _ h := h
  attention _ _ h := h
  search c s h := overlayWf_of_overlay_eq (by simp) h
  batch s h := overlayWf_of_overlay_eq (by simp) h
  reset _ := reset_overlayWf
  body i _ _ h := bodyOf_overlayWf i h

/-- Settles O59: `OverlayWf` is kept by the parts of a step, each operation on the buffers keeping the
configuration and the frames. -/
theorem stepKeepsOverlayConfiguration : Obligations.StepKeepsOverlayConfiguration :=
  fun _ _ => overlayWf_keptByParts.step

end Sys2Proof.Machine
end

section
/-! The link, the view and the grid stay well formed (R4, R10, R156, R159, R162). -/
namespace Sys2Proof.Machine

/-! ## The link -/

/-- `LinkWf` in terms of the link alone. -/
def Link.Wf (l : Link) : Prop :=
  l.holding.length ≤ Config.holdingFrames ∧ l.hold = holdLevel l ∧
  (l.state = .idle → l.holding = [] ∧ l.assembler = .hunt)

/-- What stands of `Link.Wf` before HOLD is driven. -/
def Link.FramesWf (l : Link) : Prop :=
  l.holding.length ≤ Config.holdingFrames ∧
  (l.state = .idle → l.holding = [] ∧ l.assembler = .hunt)

theorem Link.Wf.frames {l : Link} (h : l.Wf) : l.FramesWf := ⟨h.1, h.2.2⟩

theorem driveHold_linkWf {s : State} (h : s.link.FramesWf) : (driveHold s).link.Wf :=
  ⟨h.1, rfl, h.2⟩

@[simp] theorem setAssembler_link (a : Assembler) (s : State) :
    (setAssembler a s).link = { s.link with assembler := a } := rfl

theorem hunting_framesWf {l : Link} (h : l.FramesWf) :
    Link.FramesWf { l with assembler := .hunt } :=
  ⟨h.1, fun idle => ⟨(h.2 idle).1, rfl⟩⟩

/-- Outside IDLE the assembler may stand anywhere. -/
theorem assembling_framesWf {l : Link} (h : l.FramesWf) (a : Assembler) (run : l.state ≠ .idle) :
    Link.FramesWf { l with assembler := a } :=
  ⟨h.1, fun idle => absurd idle run⟩

theorem framingError_framesWf {s : State} (h : s.link.FramesWf) :
    (framingError s).link.FramesWf := hunting_framesWf h

/-- A frame is held only in RUN, while fewer than two are. -/
theorem deliverFrame_framesWf (addr : Byte) (m : Message) {s : State} (h : s.link.FramesWf) :
    (deliverFrame addr m s).link.FramesWf := by
  unfold deliverFrame
  split
  · next run _ =>
    split
    · next room =>
      refine ⟨?_, fun idle => absurd (run.symm.trans idle) LinkState.noConfusion⟩
      simpa using room
    · exact ⟨h.1, LinkState.noConfusion⟩
  · exact h

theorem completeFrame_framesWf (bytes : List Byte) {s : State} (h : s.link.FramesWf) :
    (completeFrame bytes s).link.FramesWf := by
  unfold completeFrame
  split
  · exact framingError_framesWf h
  · exact deliverFrame_framesWf _ _ (hunting_framesWf h)

theorem frameByte_framesWf (bytes : List Byte) (b : Byte) {s : State} (h : s.link.FramesWf)
    (run : s.link.state ≠ .idle) : (frameByte bytes b s).link.FramesWf := by
  unfold frameByte
  dsimp only
  split
  · exact h
  · exact assembling_framesWf h _ run
  · split
    · exact framingError_framesWf h
    · split
      · exact assembling_framesWf h _ run
      · exact completeFrame_framesWf _ h

theorem startFrame_framesWf {s : State} (h : s.link.FramesWf) : (startFrame s).link.FramesWf := by
  refine ⟨h.1, fun idle => ?_⟩
  simp only [startFrame] at idle
  split at idle
  · cases idle
  · next run => exact absurd idle run

theorem arrive_framesWf (b : Byte) (stop : Bool) {s : State} (h : s.link.FramesWf) :
    (arrive b stop s).link.FramesWf := by
  unfold arrive
  split
  · split
    · exact startFrame_framesWf h
    · exact h
  · next bytes inFrame =>
    split
    · refine frameByte_framesWf bytes b h fun idle => ?_
      rw [(h.2 idle).2] at inFrame
      cases inFrame
    · exact framingError_framesWf h

theorem expireGap_linkWf {s : State} (h : s.link.Wf) : (expireGap s).link.Wf := by
  unfold expireGap
  split
  · exact h
  · exact ⟨h.1, h.2.1, fun idle => ⟨(h.2.2 idle).1, rfl⟩⟩

theorem offerFrame_framesWf {s : State} (h : s.link.FramesWf) : (offerFrame s).link.FramesWf := by
  unfold offerFrame
  split
  · exact h
  · next f rest held =>
    split
    · exact h
    · have holding : rest.length + 1 ≤ Config.holdingFrames := by simpa [held] using h.1
      exact ⟨Nat.le_of_succ_le holding, fun idle => by simpa [held] using h.2 idle⟩

theorem clearOverrun_framesWf {l : Link} (h : l.FramesWf) : (clearOverrun l).FramesWf := by
  unfold clearOverrun
  split
  · exact ⟨h.1, LinkState.noConfusion⟩
  all_goals exact h

/-! ## Records of a view or a grid -/

theorem toNat_ofNat_of_le_15 {n : Nat} (h : n ≤ 15) : (BitVec.ofNat 4 n).toNat = n :=
  Nat.mod_eq_of_lt (Nat.lt_succ_of_le h)

/-- A record that passes R4 is a view whose mapping cannot overflow, whatever its generation. -/
theorem parseView_wf {words : List Word} {v : Coord × Coord × Word × BitVec 4} (gen : Byte)
    (h : parseView words = some v) :
    View.Wf { ox := v.1, oy := v.2.1, n := v.2.2.1, shift := v.2.2.2, gen := gen } := by
  unfold parseView at h
  split at h
  case h_2 => cases h
  case h_1 =>
    dsimp only at h
    split at h
    · cases h
    · next formed =>
      split at h
      · cases h
      · next fits =>
        cases h
        simp only [not_or, not_lt] at formed fits
        obtain ⟨_, nonzero, shift⟩ := formed
        refine ⟨nonzero, ?_⟩
        dsimp only
        rw [toNat_ofNat_of_le_15 shift]
        exact fits

theorem parseGrid_wf {words : List Word} {g : Grid} (h : parseGrid words = some g) : g.Wf := by
  unfold parseGrid at h
  split at h
  case h_2 => cases h
  case h_1 =>
    split at h
    · cases h
    · split at h
      · cases h
        exact ⟨by decide, by decide⟩
      · dsimp only at h
        split at h
        · next pitches =>
          cases h
          exact (Bool.and_eq_true _ _).mp pitches
        · cases h

/-! ## Every step -/

/-- The three invariants together, as the obligation has them. -/
def LinkViewGridWf (s : State) : Prop := LinkWf s ∧ s.view.Wf ∧ s.grid.Wf

/-- The part of the state that they speak of. -/
def linkViewGrid (s : State) : Link × View × Grid := (s.link, s.view, s.grid)

theorem linkViewGridWf_of_eq {s t : State} (same : linkViewGrid t = linkViewGrid s)
    (h : LinkViewGridWf s) : LinkViewGridWf t := by
  simp only [linkViewGrid, Prod.mk.injEq] at same
  obtain ⟨link, view, grid⟩ := same
  unfold LinkViewGridWf LinkWf at h ⊢
  rwa [link, view, grid]

theorem linkViewGridWf_of_link {s t : State} (link : t.link.Wf) (view : t.view = s.view)
    (grid : t.grid = s.grid) (h : LinkViewGridWf s) : LinkViewGridWf t :=
  ⟨link, view ▸ h.2.1, grid ▸ h.2.2⟩

theorem takeView_linkViewGridWf (p : PortId) (words : List Word) {s : State}
    (h : LinkViewGridWf s) : LinkViewGridWf (takeView p words s) := by
  unfold takeView
  split
  · exact h
  · next v parsed =>
    exact ⟨h.1, parseView_wf _ parsed, h.2.2⟩

theorem takeGrid_linkViewGridWf (p : PortId) (words : List Word) {s : State}
    (h : LinkViewGridWf s) : LinkViewGridWf (takeGrid p words s) := by
  unfold takeGrid
  split
  · exact h
  · next g parsed => exact ⟨h.1, h.2.1, parseGrid_wf parsed⟩

theorem moveWordIn_linkViewGridWf (p : PortId) (w : Word) {s : State} (h : LinkViewGridWf s) :
    LinkViewGridWf (moveWordIn p w s) := by
  unfold moveWordIn
  split
  · exact h
  · dsimp only
    split
    · exact h
    · unfold takeRecord
      split
      case h_4 => exact takeView_linkViewGridWf p _ h
      case h_5 => exact takeGrid_linkViewGridWf p _ h
      all_goals exact linkViewGridWf_of_eq (by simp [linkViewGrid]) h

theorem issue_linkViewGridWf {p : PortId} {op : Command} {body : ParamBlock → State → State}
    {s : State} (h : LinkViewGridWf s)
    (hb : ∀ i t, LinkViewGridWf t → LinkViewGridWf (body i t)) :
    LinkViewGridWf (issue p op body s) :=
  issue_keeps h (fun _ h => h) (fun _ _ _ h => h) fun _ _ _ => hb _ _ h

theorem withChannel_linkViewGridWf {i : ParamBlock} {body : Chan → State → State} {s : State}
    (h : LinkViewGridWf s) (hb : ∀ c t, linkViewGrid (body c t) = linkViewGrid t) :
    LinkViewGridWf (withChannel i body s) :=
  linkViewGridWf_of_eq (withChannel_field linkViewGrid i body s hb) h

theorem bodyOf_linkViewGridWf (i : Instr) {s : State} (h : LinkViewGridWf s) :
    LinkViewGridWf (bodyOf i s) := by
  have link : s.link.Wf := h.1
  cases i
  case byteArrival b stop =>
    exact linkViewGridWf_of_link (driveHold_linkWf (arrive_framesWf b stop link.frames)) (by simp [bodyOf])
      (by simp [bodyOf]) h
  case frameOffer =>
    exact linkViewGridWf_of_link (driveHold_linkWf (offerFrame_framesWf link.frames)) (by simp [bodyOf])
      (by simp [bodyOf]) h
  case gapTimerExpiry =>
    exact linkViewGridWf_of_link (expireGap_linkWf link) (by simp [bodyOf]) (by simp [bodyOf]) h
  case clearLink p =>
    exact issue_linkViewGridWf h fun _ t h =>
      ⟨driveHold_linkWf (clearOverrun_framesWf (Link.Wf.frames h.1)), h.2⟩
  case setStation p =>
    refine issue_linkViewGridWf h fun i t h => ?_
    unfold withChannel
    split <;> exact h
  case dataWrite p w =>
    dsimp only [bodyOf]
    split
    · exact moveWordIn_linkViewGridWf p w h
    · exact h
  case resetChannel | readCursor | armFigure | cancelFigure | releaseFigure | clearStall =>
    exact issue_linkViewGridWf h fun _ _ h =>
      withChannel_linkViewGridWf h fun _ _ => by simp [linkViewGrid]
  case loadCandidates | removeCandidates | setWindow | clearTable | setGrid | setSnap | setRest
      | readPicks | flushPicks | setPickThreshold | setView | setStyle | fetchOverlay | readEvents
      | clearEvents | setEventMask | setBurst | identify =>
    exact issue_linkViewGridWf h fun _ _ => linkViewGridWf_of_eq (by simp [linkViewGrid])
  case dataRead | dataPhaseTimeout | parameterWrite | endOfInitialization | batchCompletion
      | reSearch =>
    dsimp only [bodyOf]
    split <;> exact linkViewGridWf_of_eq (by simp [linkViewGrid]) h
  all_goals exact linkViewGridWf_of_eq (by simp [bodyOf, linkViewGrid]) h

theorem linkViewGridWf_keptByParts : KeptByParts LinkViewGridWf where
  queue _ _ h := h
  attention _ _ h := h
  search c s h := linkViewGridWf_of_eq (by simp [linkViewGrid]) h
  batch s h := linkViewGridWf_of_eq (by simp [linkViewGrid]) h
  reset _ := ⟨reset_linkWf, reset_viewWf, reset_gridWf⟩
  body i _ _ h := bodyOf_linkViewGridWf i h

/-- Settles O60: the three invariants are kept by the parts of a step. -/
theorem stepKeepsLinkViewAndGrid : Obligations.StepKeepsLinkViewAndGrid :=
  fun _ _ => linkViewGridWf_keptByParts.step

end Sys2Proof.Machine
end

section
/-! What the operations leave of a channel: the figure (R88) on one side, all that stands beside it on the
other. -/
namespace Sys2Proof.Machine

/-! ## One channel and the other -/

@[simp] theorem otherChan_ne (c : Chan) : otherChan c ≠ c := by cases c <;> decide

/-- A change of one channel that leaves what `g` reads leaves it of both channels. -/
theorem updChan_reads {α : Type} (g : Channel → α) {c : Chan} {f : Channel → Channel} (s : State)
    (h : ∀ ch, g (f ch) = g ch) (d : Chan) : g ((s.updChan c f).chan d) = g (s.chan d) := by
  by_cases same : d = c
  · subst same
    rw [chan_updChan_same, h]
  · rw [chan_updChan_other _ _ _ _ same]

/-- A predicate of both channels, by channel. -/
theorem bothChannels_iff {P : Channel → Prop} {s : State} :
    BothChannels P s ↔ ∀ d, P (s.chan d) :=
  ⟨fun ⟨h0, h1⟩ d => by cases d; exacts [h0, h1], fun h => ⟨h .c0, h .c1⟩⟩

theorem bothChannels_updChan {P : Channel → Prop} {c : Chan} {f : Channel → Channel} {s : State}
    (h : ∀ d, P (s.chan d)) (hf : P (f (s.chan c))) (d : Chan) : P ((s.updChan c f).chan d) := by
  by_cases same : d = c
  · subst same
    rwa [chan_updChan_same]
  · rw [chan_updChan_other _ _ _ _ same]
    exact h d

/-! ## The two sides of a channel -/

/-- What a Figure Sequencer holds (R88). -/
structure Figure where
  stage : Stage
  template : Template
  target : Option Nat
  action : Option Action
  anchors : List Point
  ret : Option ReturnStage
  saved : Option Press

def Channel.figure (ch : Channel) : Figure :=
  ⟨ch.stage, ch.template, ch.target, ch.action, ch.anchors, ch.ret, ch.saved⟩

/-- A channel with the figure taken out: its Pointer Channel and its Snap Search Unit. -/
def Channel.besideFigure (ch : Channel) : Channel :=
  { ch with stage := .idle, template := .none, target := none, action := none, anchors := [],
            ret := none, saved := none }

/-! ## Operations on the figure -/

@[simp] theorem setStage_chan_same (c : Chan) (st : Stage) (s : State) :
    (setStage c st s).chan c = { s.chan c with stage := st } := by simp [setStage]

@[simp] theorem setStage_chan_other {c d : Chan} (st : Stage) (s : State) (h : d ≠ c) :
    (setStage c st s).chan d = s.chan d := by simp [setStage, h]

@[simp] theorem clearAnchors_chan_same (c : Chan) (s : State) :
    (clearAnchors c s).chan c = { s.chan c with anchors := [] } := by simp [clearAnchors]

@[simp] theorem clearAnchors_chan_other {c d : Chan} (s : State) (h : d ≠ c) :
    (clearAnchors c s).chan d = s.chan d := by simp [clearAnchors, h]

@[simp] theorem addAnchor_chan_same (c : Chan) (s : State) :
    (addAnchor c s).chan c =
      { s.chan c with anchors := (s.chan c).anchors ++ [(s.chan c).cursor.snapped] } := by
  simp [addAnchor]

@[simp] theorem addAnchor_chan_other {c d : Chan} (s : State) (h : d ≠ c) :
    (addAnchor c s).chan d = s.chan d := by simp [addAnchor, h]

@[simp] theorem dropTemplate_chan_same (c : Chan) (s : State) :
    (dropTemplate c s).chan c =
      { s.chan c with template := .none, target := none, action := none } := by
  simp [dropTemplate]

@[simp] theorem dropTemplate_chan_other {c d : Chan} (s : State) (h : d ≠ c) :
    (dropTemplate c s).chan d = s.chan d := by simp [dropTemplate, h]

/-- An operation on the figure of channel `c`: the other channel and all beside the figure are left. -/
structure FigureOnly (c : Chan) (s t : State) : Prop where
  other : ∀ d, d ≠ c → t.chan d = s.chan d
  beside : (t.chan c).besideFigure = (s.chan c).besideFigure

theorem FigureOnly.refl {c : Chan} {s t : State} (h : t.chans = s.chans) : FigureOnly c s t :=
  ⟨fun _ _ => by simp [State.chan, h], by simp [State.chan, h]⟩

theorem FigureOnly.trans {c : Chan} {s t u : State} (h : FigureOnly c s t) (h' : FigureOnly c t u) :
    FigureOnly c s u :=
  ⟨fun d hd => (h'.other d hd).trans (h.other d hd), h'.beside.trans h.beside⟩

/-- What stands beside the figure is left of both channels. -/
theorem FigureOnly.beside_both {c : Chan} {s t : State} (h : FigureOnly c s t) (d : Chan) :
    (t.chan d).besideFigure = (s.chan d).besideFigure := by
  by_cases same : d = c
  · exact same ▸ h.beside
  · rw [h.other d same]

theorem figureOnly_setStage (c : Chan) (st : Stage) (s : State) : FigureOnly c s (setStage c st s) :=
  ⟨fun _ h => setStage_chan_other st s h, by rw [setStage_chan_same]; rfl⟩

theorem figureOnly_clearAnchors (c : Chan) (s : State) : FigureOnly c s (clearAnchors c s) :=
  ⟨fun _ h => clearAnchors_chan_other s h, by rw [clearAnchors_chan_same]; rfl⟩

theorem figureOnly_addAnchor (c : Chan) (s : State) : FigureOnly c s (addAnchor c s) :=
  ⟨fun _ h => addAnchor_chan_other s h, by rw [addAnchor_chan_same]; rfl⟩

theorem figureOnly_dropTemplate (c : Chan) (s : State) : FigureOnly c s (dropTemplate c s) :=
  ⟨fun _ h => dropTemplate_chan_other s h, by rw [dropTemplate_chan_same]; rfl⟩

theorem figureOnly_updChan {c : Chan} {f : Channel → Channel} (s : State)
    (h : ∀ ch, (f ch).besideFigure = ch.besideFigure) : FigureOnly c s (s.updChan c f) :=
  ⟨fun _ hd => chan_updChan_other _ _ _ _ hd, updChan_reads _ s h c⟩

theorem figureOnly_setStage_updChan {c : Chan} {f : Channel → Channel} (st : Stage) (s : State)
    (h : ∀ ch, (f ch).besideFigure = ch.besideFigure) :
    FigureOnly c s (setStage c st (s.updChan c f)) :=
  (figureOnly_updChan s h).trans (figureOnly_setStage c st _)

/-- The anchors are emptied and the stage changes, as in many steps. -/
theorem figureOnly_setStage_clearAnchors (c : Chan) (st : Stage) (s : State) :
    FigureOnly c s (setStage c st (clearAnchors c s)) :=
  (figureOnly_clearAnchors c s).trans (figureOnly_setStage c st _)

theorem figureOnly_drop_to_idle (c : Chan) (s : State) :
    FigureOnly c s (setStage c .idle (dropTemplate c (clearAnchors c s))) :=
  ((figureOnly_clearAnchors c s).trans (figureOnly_dropTemplate c _)).trans
    (figureOnly_setStage c .idle _)

theorem figureOnly_applyAction (c : Chan) (s : State) : FigureOnly c s (applyAction c s) := by
  unfold applyAction
  split
  · exact figureOnly_setStage c .hold s
  · exact figureOnly_setStage_clearAnchors c .armed s
  · exact figureOnly_drop_to_idle c s
  · exact .refl rfl

theorem figureOnly_recordAccepted (c : Chan) (k : RecordKind) (s : State) :
    FigureOnly c s (recordAccepted c k s) := by
  unfold recordAccepted
  split
  · exact .refl rfl
  · exact (figureOnly_addAnchor c s).trans (figureOnly_setStage c .banding _)
  · exact (figureOnly_addAnchor c s).trans (figureOnly_applyAction c _)
  · exact figureOnly_applyAction c s
  · exact figureOnly_setStage_clearAnchors c .armed s

theorem figureOnly_recordRefused (c : Chan) (k : RecordKind) (s : State) :
    FigureOnly c s (recordRefused c k s) := by
  unfold recordRefused
  split
  · exact figureOnly_setStage_clearAnchors c .armed s
  all_goals exact .refl rfl

theorem figureOnly_offerPick (c : Chan) (r : PickRecord) (s : State) :
    FigureOnly c s (offerPick r s) := .refl (by simp)

theorem figureOnly_offerRecord (c : Chan) (k : RecordKind) (n : Nat) (s : State) :
    FigureOnly c s (offerRecord c k n s) := by
  unfold offerRecord
  dsimp only
  split
  · exact (figureOnly_offerPick c _ s).trans (figureOnly_recordAccepted c k _)
  · exact (figureOnly_offerPick c _ s).trans (figureOnly_recordRefused c k _)

theorem figureOnly_sequenceError (c : Chan) (r : ReturnStage) (s : State) :
    FigureOnly c s (sequenceError c r s) :=
  have stalled : FigureOnly c s
      (setStage c .stalled (s.updChan c fun ch => { ch with ret := some r, saved := none })) :=
    figureOnly_setStage_updChan .stalled s fun _ => rfl
  stalled.trans (.refl rfl)

theorem figureOnly_savePress (c : Chan) (pr : Press) (s : State) :
    FigureOnly c s (savePress c pr s) := by
  unfold savePress
  split
  · exact figureOnly_updChan s fun _ => rfl
  · exact .refl rfl

theorem figureOnly_pressWithoutRecord (c : Chan) (pr : Press) (s : State) :
    FigureOnly c s (pressWithoutRecord c pr s) := by
  unfold pressWithoutRecord
  split
  · exact figureOnly_sequenceError c .armed s
  · exact figureOnly_sequenceError c .banding s
  · exact .refl rfl
  · exact figureOnly_savePress c _ s
  all_goals exact .refl rfl

theorem figureOnly_handlePress (c : Chan) (pr : Press) (s : State) :
    FigureOnly c s (handlePress c pr s) := by
  unfold handlePress
  split
  · exact figureOnly_offerRecord c _ _ s
  · exact figureOnly_pressWithoutRecord c pr s

theorem figureOnly_handlePresses (c : Chan) (l : List Press) (s : State) :
    FigureOnly c s (handlePresses c l s) := by
  induction l generalizing s with
  | nil => exact .refl rfl
  | cons pr rest ih => exact (figureOnly_handlePress c pr s).trans (ih _)

theorem figureOnly_armTemplate (c : Chan) (t : Template) (i : ParamBlock) (s : State) :
    FigureOnly c s (armTemplate c t i s) :=
  figureOnly_setStage_updChan _ s fun _ => rfl

theorem figureOnly_acceptArm (p : PortId) (i : ParamBlock) (c : Chan) (s : State) :
    FigureOnly c s (acceptArm p i c s) := by
  unfold acceptArm
  dsimp only
  split
  · exact .refl rfl
  · split
    · exact .refl rfl
    · exact (figureOnly_armTemplate c _ i s).trans (.refl rfl)

theorem figureOnly_acceptCancel (p : PortId) (c : Chan) (s : State) :
    FigureOnly c s (acceptCancel p c s) := by
  unfold acceptCancel
  dsimp only
  split
  case h_3 | h_4 => exact (figureOnly_offerRecord c _ _ s).trans (.refl rfl)
  all_goals exact .refl rfl

theorem figureOnly_releaseHeld (c : Chan) (toIdle : Bool) (s : State) :
    FigureOnly c s (releaseHeld c toIdle s) := by
  unfold releaseHeld
  split
  · exact figureOnly_drop_to_idle c s
  · exact figureOnly_setStage_clearAnchors c .armed s

theorem figureOnly_acceptRelease (p : PortId) (i : ParamBlock) (c : Chan) (s : State) :
    FigureOnly c s (acceptRelease p i c s) := by
  unfold acceptRelease
  dsimp only
  split
  · exact (figureOnly_releaseHeld c _ s).trans (.refl rfl)
  · exact .refl rfl

theorem figureOnly_endStall (c : Chan) (r : ReturnStage) (s : State) :
    FigureOnly c s (endStall c r s) :=
  figureOnly_setStage_updChan _ s fun _ => rfl

theorem figureOnly_replay (c : Chan) (pr : Option Press) (s : State) :
    FigureOnly c s (replay c pr s) := by
  cases pr with
  | none => exact .refl rfl
  | some q => exact figureOnly_handlePress c q s

theorem figureOnly_acceptClearStall (p : PortId) (c : Chan) (s : State) :
    FigureOnly c s (acceptClearStall p c s) := by
  unfold acceptClearStall
  dsimp only
  split
  · exact ((figureOnly_endStall c _ s).trans (figureOnly_replay c _ _)).trans (.refl rfl)
  all_goals exact .refl rfl

/-! ## Operations beside the figure -/

@[simp] theorem setFlag_chan_same (c : Chan) (s : State) :
    (setFlag c s).chan c =
      { s.chan c with flag := (s.chan c).flag || (s.chan c).state != .detached } := by
  simp [setFlag]

@[simp] theorem setFlag_chan_other {c d : Chan} (s : State) (h : d ≠ c) :
    (setFlag c s).chan d = s.chan d := by simp [setFlag, h]

@[simp] theorem beginSearch_chan_same (c : Chan) (b : SearchBasis) (s : State) :
    (beginSearch c b s).chan c =
      { s.chan c with search := .waiting b (s.stc.access == .opened) } := by
  simp [beginSearch]

@[simp] theorem beginSearch_chan_other {c d : Chan} (b : SearchBasis) (s : State) (h : d ≠ c) :
    (beginSearch c b s).chan d = s.chan d := by simp [beginSearch, h]

@[simp] theorem setChanState_chan_same (c : Chan) (st : ChanState) (s : State) :
    (setChanState c st s).chan c = { s.chan c with state := st } := by simp [setChanState]

@[simp] theorem setChanState_chan_other {c d : Chan} (st : ChanState) (s : State) (h : d ≠ c) :
    (setChanState c st s).chan d = s.chan d := by simp [setChanState, h]

@[simp] theorem writeResult_chan_same (c : Chan) (b : SearchBasis) (i : Inputs) (r : SearchResult)
    (s : State) : (writeResult c b i r s).chan c =
      { s.chan c with cursor := resultRecord b i r, zone := r.zone, search := .quiet } := by
  simp [writeResult]

@[simp] theorem writeResult_chan_other {c d : Chan} (b : SearchBasis) (i : Inputs) (r : SearchResult)
    (s : State) (h : d ≠ c) : (writeResult c b i r s).chan d = s.chan d := by simp [writeResult, h]

@[simp] theorem leaveTable_chan (s : State) (d : Chan) : (leaveTable s).chan d = s.chan d := rfl

@[simp] theorem releaseWaiting_chan (s : State) (d : Chan) :
    (releaseWaiting s).chan d = { s.chan d with search := releaseSearch (s.chan d).search } := by
  cases d <;> rfl

@[simp] theorem passTurn_chan (s : State) (d : Chan) :
    (passTurn s).chan d = { s.chan d with search := releaseSearch (s.chan d).search } := by
  cases d <;> rfl

@[simp] theorem endStartUp_chan (s : State) (d : Chan) :
    (endStartUp s).chan d = { s.chan d with search := releaseSearch (s.chan d).search } := by
  cases d <;> rfl

@[simp] theorem acceptRest_chan (p : PortId) (i : ParamBlock) (s : State) (d : Chan) :
    (acceptRest p i s).chan d =
      { s.chan d with timer := restartTimer (restInterval i.p0) (s.chan d).timer } := by
  cases d <;> rfl

@[simp] theorem viewChannel_chan_same (c : Chan) (s : State) :
    (viewChannel c s).chan c = { s.chan c with
      flag := (s.chan c).flag || (s.chan c).state != .detached
      search := markView (s.chan c).search } := by simp [viewChannel]

@[simp] theorem viewChannel_chan_other {c d : Chan} (s : State) (h : d ≠ c) :
    (viewChannel c s).chan d = s.chan d := by simp [viewChannel, h]

@[simp] theorem acceptView_chan (v : Coord × Coord × Word × BitVec 4) (s : State) (d : Chan) :
    (acceptView v s).chan d = { s.chan d with
      flag := (s.chan d).flag || (s.chan d).state != .detached
      search := markView (s.chan d).search } := by
  cases d <;> rfl

@[simp] theorem acceptGrid_chan (g : Grid) (s : State) (d : Chan) :
    (acceptGrid g s).chan d = { s.chan d with
      flag := (s.chan d).flag || (s.chan d).state != .detached } := by
  cases d <;> rfl

@[simp] theorem acceptSettings_chan_same (c : Chan) (v : Settings) (s : State) :
    (acceptSettings c v s).chan c = { s.chan c with
      settings := v, flag := (s.chan c).flag || (s.chan c).state != .detached } := by
  simp [acceptSettings]

@[simp] theorem acceptSettings_chan_other {c d : Chan} (v : Settings) (s : State) (h : d ≠ c) :
    (acceptSettings c v s).chan d = s.chan d := by simp [acceptSettings, h]

/-- A granted search enters SEARCHING (R46). -/
theorem startSearch_of_waiting {c : Chan} {b : SearchBasis} {s : State}
    (h : (s.chan c).search = .waiting b true) :
    startSearch c s = { s.setChan c { s.chan c with
        search := .searching b .none (fixInputs s c b), flag := false } with
      stc := { s.stc with inFlight := s.stc.inFlight + 1 } } := by
  simp only [startSearch, h]
  rfl

theorem startSearch_chan_of_waiting {c : Chan} {b : SearchBasis} {s : State}
    (h : (s.chan c).search = .waiting b true) :
    (startSearch c s).chan c =
      { s.chan c with search := .searching b .none (fixInputs s c b), flag := false } := by
  rw [startSearch_of_waiting h]
  exact chan_setChan_same ..

theorem startSearch_of_not_waiting {c : Chan} {s : State}
    (h : ∀ b, (s.chan c).search ≠ .waiting b true) : startSearch c s = s := by
  unfold startSearch
  split
  · next b waiting => exact absurd waiting (h b)
  all_goals rfl

/-- A hit that the table no longer offers is dropped (R30). -/
theorem dropHit_chan_same (c : Chan) (s : State) :
    (dropHit c s).chan c =
      if hitLost s.stc.table c (s.chan c).cursor = true then
        { s.chan c with
          cursor := { (s.chan c).cursor with hit := none, hitLost := true }
          flag := (s.chan c).flag || (s.chan c).state != .detached }
      else s.chan c := by
  unfold dropHit
  split
  · rw [setFlag_chan_same, chan_raise, chan_updChan_same]
  · rfl

@[simp] theorem dropHit_chan_other {c d : Chan} (s : State) (h : d ≠ c) :
    (dropHit c s).chan d = s.chan d := by
  unfold dropHit
  split
  · rw [setFlag_chan_other _ h, chan_raise, chan_updChan_other _ _ _ _ h]
  · rfl

theorem flagBatch_chan_same (c : Chan) (b : List EditItem) (s : State) :
    (flagBatch c b s).chan c =
      if b.any (asksSearch c) = true then
        { s.chan c with flag := (s.chan c).flag || (s.chan c).state != .detached }
      else s.chan c := by
  unfold flagBatch
  split
  · rw [setFlag_chan_same]
  · rfl

@[simp] theorem flagBatch_chan_other {c d : Chan} (b : List EditItem) (s : State) (h : d ≠ c) :
    (flagBatch c b s).chan d = s.chan d := by
  unfold flagBatch
  split
  · rw [setFlag_chan_other _ h]
  · rfl

/-- A frame whose report joins leaves the holding buffer (R160). -/
theorem offerFrame_joins {s : State} {f : HeldFrame} {rest : List HeldFrame} {q : List Report}
    (held : s.link.holding = f :: rest) (joins : joinQueue (s.chan f.chan) f.msg = some q) :
    offerFrame s = { s.setChan f.chan { s.chan f.chan with queue := q } with
      link := { s.link with holding := rest } } := by
  simp only [offerFrame, held, joins]
  rfl

theorem offerFrame_refused {s : State} {f : HeldFrame} {rest : List HeldFrame}
    (held : s.link.holding = f :: rest) (refused : joinQueue (s.chan f.chan) f.msg = none) :
    offerFrame s = s := by
  simp only [offerFrame, held, refused]

theorem offerFrame_of_none_held {s : State} (held : s.link.holding = []) : offerFrame s = s := by
  simp only [offerFrame, held]

end Sys2Proof.Machine
end

section
/-! The Figure Sequencers stay well formed (R88, R89, R91, R92): the figure operations keep `FigureWf` of
their channel, and all others leave the figure. -/
namespace Sys2Proof.Machine

/-! ## What a well-formed figure holds in each stage -/

section
variable {ch : Channel} (h : ch.FigureWf)
include h

theorem Channel.FigureWf.of_idle (stage : ch.stage = .idle) : ch.ret = none ∧ ch.saved = none := by
  simp only [Channel.FigureWf, stage] at h
  exact h.2.2.2.2

theorem Channel.FigureWf.of_armed (stage : ch.stage = .armed) :
    ch.armed ∧ ch.anchors = [] ∧ ch.ret = none ∧ ch.saved = none := by
  simpa only [Channel.FigureWf, stage] using h

theorem Channel.FigureWf.of_banding (stage : ch.stage = .banding) :
    ch.armed ∧ ch.bands ∧ ch.ret = none ∧ ch.saved = none := by
  simpa only [Channel.FigureWf, stage] using h

theorem Channel.FigureWf.of_hold (stage : ch.stage = .hold) :
    ch.armed ∧ ch.ret = none ∧ ch.saved = none := by
  simp only [Channel.FigureWf, stage] at h
  exact ⟨h.1, h.2.2.2⟩

theorem Channel.FigureWf.of_stalled (stage : ch.stage = .stalled) :
    ch.armed ∧ ((ch.ret = some .armed ∧ ch.anchors = []) ∨ (ch.ret = some .banding ∧ ch.bands)) := by
  simpa only [Channel.FigureWf, stage] using h

/-- Outside BANDING and STALLED no press is saved and no return stage is held. -/
theorem Channel.FigureWf.settled (notBanding : ch.stage ≠ .banding) (notStalled : ch.stage ≠ .stalled) :
    ch.ret = none ∧ ch.saved = none := by
  cases stage : ch.stage with
  | idle => exact h.of_idle stage
  | armed => exact (h.of_armed stage).2.2
  | hold => exact (h.of_hold stage).2
  | banding => exact absurd stage notBanding
  | stalled => exact absurd stage notStalled

end

/-- `FigureWf` reads the figure alone. -/
theorem figureWf_of_figure_eq {ch ch' : Channel} (same : ch'.figure = ch.figure)
    (h : ch.FigureWf) : ch'.FigureWf := by
  simp only [Channel.figure, Figure.mk.injEq] at same
  obtain ⟨stage, template, target, action, anchors, ret, saved⟩ := same
  unfold Channel.FigureWf Channel.armed Channel.bands at h ⊢
  rwa [stage, template, target, action, anchors, ret, saved]

/-- A target count is 2 at least. -/
theorem Channel.armed.two_le {ch : Channel} (h : ch.armed) {t : Nat} (ht : ch.target = some t) :
    2 ≤ t := by
  obtain ⟨-, t', ht', count⟩ := h
  have same : t = t' := Option.some.inj (ht.symm.trans ht')
  rcases count with ⟨-, two⟩ | ⟨-, three⟩ | ⟨-, two_le, -⟩ <;> omega

theorem figureWf_armed {ch : Channel} (armed : ch.armed) (ret : ch.ret = none)
    (saved : ch.saved = none) : Channel.FigureWf { ch with stage := .armed, anchors := [] } :=
  ⟨armed, rfl, ret, saved⟩

theorem figureWf_idle {ch : Channel} (ret : ch.ret = none) (saved : ch.saved = none) :
    Channel.FigureWf { ch with
      stage := .idle, template := .none, target := none, action := none, anchors := [] } :=
  ⟨rfl, rfl, rfl, rfl, ret, saved⟩

/-! ## The completion of a figure -/

/-- A figure whose last anchor is set, or which a FINISH ends. -/
structure Channel.Completed (ch : Channel) : Prop where
  armed : ch.armed
  two_le : 2 ≤ ch.anchors.length
  le_target : ∀ t, ch.target = some t → ch.anchors.length ≤ t
  ret : ch.ret = none
  saved : ch.saved = none

theorem applyAction_figureWf {c : Chan} {s : State} (h : (s.chan c).Completed) :
    ((applyAction c s).chan c).FigureWf := by
  obtain ⟨armed, two_le, le_target, ret, saved⟩ := h
  unfold applyAction
  split
  · rw [setStage_chan_same]
    exact ⟨armed, two_le, le_target, ret, saved⟩
  · rw [setStage_chan_same, clearAnchors_chan_same]
    exact figureWf_armed armed ret saved
  · rw [setStage_chan_same, dropTemplate_chan_same, clearAnchors_chan_same]
    exact figureWf_idle ret saved
  · next none => exact absurd none armed.1

/-! ## Presses -/

/-- Which record a press makes, and in which stage (R96 to R100). -/
theorem pressRecord_cases {ch : Channel} {pr : Press} {k : RecordKind} {n : Nat}
    (h : pressRecord ch pr = some (k, n)) :
    (ch.stage = .idle ∧ k = .point) ∨ (ch.stage = .armed ∧ k = .anchor) ∨
    (ch.stage = .banding ∧
      ((k = .anchor ∧ ch.anchors.length + 1 < ch.target.getD 0) ∨
       (k = .done ∧ ch.target.getD 0 ≤ ch.anchors.length + 1) ∨
       (k = .finish ∧ 2 ≤ ch.anchors.length) ∨ k = .cancelled)) := by
  cases stage : ch.stage with
  | idle | armed => cases pr <;> simp_all [pressRecord]
  | hold | stalled => simp [pressRecord, stage] at h
  | banding =>
    cases pr with
    | pick =>
      simp only [pressRecord, stage] at h
      split at h
      · next more => cases h; exact .inr (.inr ⟨rfl, .inl ⟨rfl, more⟩⟩)
      · next last => cases h; exact .inr (.inr ⟨rfl, .inr (.inl ⟨rfl, Nat.not_lt.mp last⟩)⟩)
    | finish =>
      simp only [pressRecord, stage] at h
      split at h
      · next enough => cases h; exact .inr (.inr ⟨rfl, .inr (.inr (.inl ⟨rfl, enough.2⟩))⟩)
      · cases h
    | cancel =>
      simp only [pressRecord, stage] at h
      cases h
      exact .inr (.inr ⟨rfl, .inr (.inr (.inr rfl))⟩)

/-- The offer of a record, by what its acceptance and its refusal make of the channel. -/
theorem offerRecord_figureWf {c : Chan} {k : RecordKind} (n : Nat) {s : State}
    (accepted : ∀ t : State, t.chan c = s.chan c → ((recordAccepted c k t).chan c).FigureWf)
    (refused : ∀ t : State, t.chan c = s.chan c → ((recordRefused c k t).chan c).FigureWf) :
    ((offerRecord c k n s).chan c).FigureWf := by
  unfold offerRecord
  dsimp only
  split
  · exact accepted _ (offerPick_chan _ s c)
  · exact refused _ (offerPick_chan _ s c)

/-- A CANCELLED record leaves the figure armed, whether the queue takes it or not (R95). -/
theorem offerRecord_cancelled_figureWf {c : Chan} (n : Nat) {s : State} (armed : (s.chan c).armed)
    (ret : (s.chan c).ret = none) (saved : (s.chan c).saved = none) :
    ((offerRecord c .cancelled n s).chan c).FigureWf := by
  have cancelled (t : State) (same : t.chan c = s.chan c) :
      ((setStage c .armed (clearAnchors c t)).chan c).FigureWf := by
    rw [setStage_chan_same, clearAnchors_chan_same, same]
    exact figureWf_armed armed ret saved
  exact offerRecord_figureWf n cancelled cancelled

theorem offerRecord_press_figureWf {c : Chan} {pr : Press} {k : RecordKind} {n : Nat} {s : State}
    (h : (s.chan c).FigureWf) (made : pressRecord (s.chan c) pr = some (k, n)) :
    ((offerRecord c k n s).chan c).FigureWf := by
  rcases pressRecord_cases made with ⟨-, rfl⟩ | ⟨stage, rfl⟩ | ⟨stage, banding⟩
  · exact offerRecord_figureWf n (fun t same => same ▸ h) (fun t same => same ▸ h)
  · obtain ⟨armed, none, ret, saved⟩ := h.of_armed stage
    refine offerRecord_figureWf n (fun t same => ?_) (fun t same => same ▸ h)
    simp only [recordAccepted, setStage_chan_same, addAnchor_chan_same, same, none]
    exact ⟨armed, ⟨le_rfl, fun t ht => armed.two_le ht⟩, ret, saved⟩
  · obtain ⟨armed, ⟨one_le, lt_target⟩, ret, saved⟩ := h.of_banding stage
    rcases banding with ⟨rfl, more⟩ | ⟨rfl, last⟩ | ⟨rfl, two_le⟩ | rfl
    · refine offerRecord_figureWf n (fun t same => ?_) (fun t same => same ▸ h)
      simp only [recordAccepted, setStage_chan_same, addAnchor_chan_same, same]
      refine ⟨armed, ⟨by simp, fun t ht => ?_⟩, ret, saved⟩
      have target : (s.chan c).target = some t := ht
      simpa [target] using more
    · refine offerRecord_figureWf n (fun t same => ?_) (fun t same => same ▸ h)
      refine applyAction_figureWf ?_
      rw [addAnchor_chan_same, same]
      refine ⟨armed, ?_, fun t ht => ?_, ret, saved⟩
      · simpa using one_le
      · simpa using lt_target t ht
    · refine offerRecord_figureWf n (fun t same => applyAction_figureWf ?_) (fun t same => same ▸ h)
      rw [same]
      exact ⟨armed, two_le, fun t ht => (lt_target t ht).le, ret, saved⟩
    · exact offerRecord_cancelled_figureWf n armed ret saved

theorem sequenceError_chan_same (c : Chan) (r : ReturnStage) (s : State) :
    (sequenceError c r s).chan c = { s.chan c with stage := .stalled, ret := some r, saved := none } := by
  simp [sequenceError]

theorem savePress_figureWf {c : Chan} (pr : Press) {s : State} (h : (s.chan c).FigureWf)
    (stage : (s.chan c).stage = .stalled) : ((savePress c pr s).chan c).FigureWf := by
  unfold savePress
  split
  · have stalled := h.of_stalled stage
    rw [chan_updChan_same]
    simp only [Channel.FigureWf, stage]
    exact stalled
  · exact h

theorem pressWithoutRecord_figureWf {c : Chan} (pr : Press) {s : State} (h : (s.chan c).FigureWf) :
    ((pressWithoutRecord c pr s).chan c).FigureWf := by
  unfold pressWithoutRecord
  split
  case h_1 stage =>
    obtain ⟨armed, none, -, -⟩ := h.of_armed stage
    rw [sequenceError_chan_same]
    exact ⟨armed, .inl ⟨rfl, none⟩⟩
  case h_2 stage =>
    obtain ⟨armed, bands, -, -⟩ := h.of_banding stage
    rw [sequenceError_chan_same]
    exact ⟨armed, .inr ⟨rfl, bands⟩⟩
  case h_4 stage => exact savePress_figureWf _ h stage
  all_goals exact h

theorem handlePress_figureWf {c : Chan} (pr : Press) {s : State} (h : (s.chan c).FigureWf) :
    ((handlePress c pr s).chan c).FigureWf := by
  unfold handlePress
  split
  · next made => exact offerRecord_press_figureWf h made
  · exact pressWithoutRecord_figureWf pr h

theorem handlePresses_figureWf {c : Chan} (l : List Press) {s : State} (h : (s.chan c).FigureWf) :
    ((handlePresses c l s).chan c).FigureWf := by
  induction l generalizing s with
  | nil => exact h
  | cons pr rest ih => exact ih (handlePress_figureWf pr h)

/-! ## Figure commands -/

/-- Every sequencer is well formed. -/
def FiguresWf (s : State) : Prop := ∀ d, (s.chan d).FigureWf

/-- An operation on one figure keeps the others well formed. -/
theorem FigureOnly.figuresWf {c : Chan} {s t : State} (only : FigureOnly c s t) (h : FiguresWf s)
    (own : (t.chan c).FigureWf) : FiguresWf t := fun d => by
  by_cases same : d = c
  · exact same ▸ own
  · rw [only.other d same]
    exact h d

/-- A template armed with parameters that ARM FIGURE accepts (R89, R108). -/
theorem armed_of_armOk {ch : Channel} {i : ParamBlock} {t : Template} (ok : armOk i = true)
    (template : Template.ofCode i.p1.toNat = some t) (figure : t ≠ .none) :
    Channel.armed { ch with
      template := t, target := armTarget t i.p2.toNat, action := Action.ofCode i.p3.toNat } := by
  simp only [armOk, template] at ok
  cases t with
  | none => exact absurd rfl figure
  | line | rect | circle =>
    exact ⟨Option.isSome_iff_ne_none.mp ok, 2, rfl, .inl ⟨by simp, rfl⟩⟩
  | arc3 => exact ⟨Option.isSome_iff_ne_none.mp ok, 3, rfl, .inr (.inl ⟨rfl, rfl⟩)⟩
  | polyline =>
    simp only [Bool.and_eq_true, decide_eq_true_eq] at ok
    obtain ⟨⟨two_le, le⟩, action⟩ := ok
    exact ⟨Option.isSome_iff_ne_none.mp action, _, rfl, .inr (.inr ⟨rfl, two_le, le⟩)⟩

theorem armTemplate_figureWf {c : Chan} {i : ParamBlock} {t : Template} {s : State}
    (ok : armOk i = true) (template : Template.ofCode i.p1.toNat = some t)
    (ret : (s.chan c).ret = none) (saved : (s.chan c).saved = none) :
    ((armTemplate c t i s).chan c).FigureWf := by
  simp only [armTemplate, setStage_chan_same, chan_updChan_same]
  by_cases none : t = .none
  · subst none
    exact ⟨rfl, rfl, rfl, rfl, ret, saved⟩
  · simp only [if_neg none]
    exact ⟨armed_of_armOk (ch := s.chan c) ok template none, rfl, ret, saved⟩

theorem acceptArm_figureWf {p : PortId} {i : ParamBlock} {c : Chan} {s : State}
    (h : (s.chan c).FigureWf) (ok : armOk i = true) : ((acceptArm p i c s).chan c).FigureWf := by
  unfold acceptArm
  dsimp only
  split
  · exact h
  · next stage =>
    rw [not_or] at stage
    obtain ⟨ret, saved⟩ := h.settled stage.1 stage.2
    split
    · exact h
    · next template =>
      rw [chan_complete]
      exact armTemplate_figureWf ok template ret saved

theorem acceptCancel_figureWf {p : PortId} {c : Chan} {s : State} (h : (s.chan c).FigureWf) :
    ((acceptCancel p c s).chan c).FigureWf := by
  unfold acceptCancel
  dsimp only
  split
  case h_3 stage =>
    obtain ⟨armed, -, ret, saved⟩ := h.of_banding stage
    exact offerRecord_cancelled_figureWf _ armed ret saved
  case h_4 stage =>
    obtain ⟨armed, ret, saved⟩ := h.of_hold stage
    exact offerRecord_cancelled_figureWf _ armed ret saved
  all_goals exact h

theorem acceptRelease_figureWf {p : PortId} {i : ParamBlock} {c : Chan} {s : State}
    (h : (s.chan c).FigureWf) : ((acceptRelease p i c s).chan c).FigureWf := by
  unfold acceptRelease
  dsimp only
  split
  · next stage =>
    obtain ⟨armed, ret, saved⟩ := h.of_hold stage
    rw [chan_complete]
    unfold releaseHeld
    split
    · rw [setStage_chan_same, dropTemplate_chan_same, clearAnchors_chan_same]
      exact figureWf_idle ret saved
    · rw [setStage_chan_same, clearAnchors_chan_same]
      exact figureWf_armed armed ret saved
  · exact h

theorem endStall_figureWf {c : Chan} {r : ReturnStage} {s : State} (h : (s.chan c).FigureWf)
    (stage : (s.chan c).stage = .stalled) (ret : (s.chan c).ret = some r) :
    ((endStall c r s).chan c).FigureWf := by
  obtain ⟨armed, ⟨wasArmed, none⟩ | ⟨wasBanding, bands⟩⟩ := h.of_stalled stage
  · cases ret.symm.trans wasArmed
    simp only [endStall, setStage_chan_same, chan_updChan_same]
    exact ⟨armed, none, rfl, rfl⟩
  · cases ret.symm.trans wasBanding
    simp only [endStall, setStage_chan_same, chan_updChan_same]
    exact ⟨armed, bands, rfl, rfl⟩

theorem acceptClearStall_figureWf {p : PortId} {c : Chan} {s : State} (h : (s.chan c).FigureWf) :
    ((acceptClearStall p c s).chan c).FigureWf := by
  unfold acceptClearStall
  dsimp only
  split
  case h_1 stage ret =>
    rw [chan_complete]
    have ended := endStall_figureWf h stage ret
    unfold replay
    split
    · exact ended
    · exact handlePress_figureWf _ ended
  all_goals exact h

/-! ## Operations that leave every figure -/

/-- Both figures of a state. -/
def figures (s : State) (d : Chan) : Figure := (s.chan d).figure

theorem figuresWf_of_figures_eq {s t : State} (same : ∀ d, figures t d = figures s d)
    (h : FiguresWf s) : FiguresWf t := fun d => figureWf_of_figure_eq (same d) (h d)

theorem figuresWf_of_chans_eq {s t : State} (same : t.chans = s.chans) (h : FiguresWf s) :
    FiguresWf t := figuresWf_of_figures_eq (fun d => by simp [figures, State.chan, same]) h

theorem updChan_figures {c : Chan} {f : Channel → Channel} (s : State)
    (d : Chan) (h : ∀ ch, (f ch).figure = ch.figure := by exact fun _ => rfl) :
    figures (s.updChan c f) d = figures s d :=
  updChan_reads Channel.figure s h d

theorem setFlag_figures (c : Chan) (s : State) (d : Chan) : figures (setFlag c s) d = figures s d :=
  updChan_figures s d

theorem setChanState_figures (c : Chan) (st : ChanState) (s : State) (d : Chan) :
    figures (setChanState c st s) d = figures s d := by
  have := updChan_figures (c := c) (f := fun ch => { ch with state := st }) s d
  simpa [setChanState, figures] using this

theorem startSearch_figures (c : Chan) (s : State) (d : Chan) :
    figures (startSearch c s) d = figures s d := by
  by_cases waiting : ∃ b, (s.chan c).search = .waiting b true
  · obtain ⟨b, waiting⟩ := waiting
    by_cases same : d = c
    · subst same
      rw [figures, startSearch_chan_of_waiting waiting]
      rfl
    · rw [figures, startSearch_chan_other _ _ _ same]
      rfl
  · rw [startSearch_of_not_waiting (not_exists.mp waiting)]

theorem dropHit_figures (c : Chan) (s : State) (d : Chan) :
    figures (dropHit c s) d = figures s d := by
  by_cases same : d = c
  · subst same
    rw [figures, dropHit_chan_same]
    split <;> rfl
  · rw [figures, dropHit_chan_other s same]
    rfl

theorem flagBatch_figures (c : Chan) (b : List EditItem) (s : State) (d : Chan) :
    figures (flagBatch c b s) d = figures s d := by
  unfold flagBatch
  split
  · exact setFlag_figures c s d
  · rfl

theorem passTurn_figures (s : State) (d : Chan) : figures (passTurn s) d = figures s d := by
  rw [figures, passTurn_chan]
  rfl

theorem completeBatch_figures (s : State) (d : Chan) :
    figures (completeBatch s) d = figures s d := by
  simp only [completeBatch]
  rw [figures, finishTable_chan]
  change figures (passTurn _) d = _
  rw [passTurn_figures, flagBatch_figures, flagBatch_figures, dropHit_figures, dropHit_figures,
    figures, credit_chan, storeBatch_chan]
  rfl

theorem writeResult_figures (c : Chan) (b : SearchBasis) (i : Inputs) (r : SearchResult) (s : State)
    (d : Chan) : figures (writeResult c b i r s) d = figures s d := by
  by_cases same : d = c
  · subst same
    rw [figures, writeResult_chan_same]
    rfl
  · rw [figures, writeResult_chan_other _ _ _ _ same]
    rfl

theorem beginSearch_figures (c : Chan) (b : SearchBasis) (s : State) (d : Chan) :
    figures (beginSearch c b s) d = figures s d := updChan_figures s d

theorem takeBeyond_figures (c : Chan) (pt : TabletPoint) (bits : BitVec 3) (s : State) (d : Chan) :
    figures (takeBeyond c pt bits s) d = figures s d := by
  simp only [takeBeyond]
  rw [beginSearch_figures, setChanState_figures]
  exact updChan_figures s d

theorem takeProxOut_figures (c : Chan) (s : State) (d : Chan) :
    figures (takeProxOut c s) d = figures s d := by
  unfold takeProxOut
  dsimp only
  split
  case h_1 | h_2 =>
    rw [setChanState_figures]
    exact (updChan_figures _ d).trans (updChan_figures s d)
  all_goals exact updChan_figures s d

theorem takeReport_figures (c : Chan) (s : State) (d : Chan) :
    figures (takeReport c s) d = figures s d := by
  have consumed (rest : List Report) :
      figures (s.updChan c fun ch => { ch with queue := rest }) d = figures s d :=
    updChan_figures s d
  unfold takeReport
  split
  · unfold actOnReport
    split
    case h_1 | h_2 =>
      split
      · rw [takeBeyond_figures, consumed]
      · exact consumed _
    case h_3 => rw [takeProxOut_figures, consumed]
  all_goals rfl

theorem expireRest_figures (c : Chan) (s : State) (d : Chan) :
    figures (expireRest c s) d = figures s d := by
  unfold expireRest
  split
  · rw [setChanState_figures]
    exact updChan_figures s d
  · rfl

theorem offerFrame_figures (s : State) (d : Chan) : figures (offerFrame s) d = figures s d := by
  cases held : s.link.holding with
  | nil => rw [offerFrame_of_none_held held]
  | cons f rest =>
    cases joins : joinQueue (s.chan f.chan) f.msg with
    | none => rw [offerFrame_refused held joins]
    | some q =>
      rw [offerFrame_joins held joins]
      exact updChan_figures (c := f.chan) (f := fun ch => { ch with queue := q }) s d

theorem acceptSettings_figures (c : Chan) (v : Settings) (s : State) (d : Chan) :
    figures (acceptSettings c v s) d = figures s d := by
  simp only [acceptSettings]
  rw [setFlag_figures]
  exact updChan_figures s d

theorem takeRecord_figures (p : PortId) (c : Progress) (words : List Word) (s : State) (d : Chan) :
    figures (takeRecord p c words s) d = figures s d := by
  unfold takeRecord
  split
  case h_4 =>
    unfold takeView
    split
    · rfl
    · rw [figures, chan_complete, acceptView_chan]
      rfl
  case h_5 =>
    unfold takeGrid
    split
    · rfl
    · rw [figures, chan_complete, acceptGrid_chan]
      rfl
  case h_6 =>
    unfold takeSettings
    split
    · exact acceptSettings_figures _ _ s d
    · rfl
  all_goals simp [figures]

theorem moveWordIn_figures (p : PortId) (w : Word) (s : State) (d : Chan) :
    figures (moveWordIn p w s) d = figures s d := by
  unfold moveWordIn
  split
  · rfl
  · dsimp only
    split
    · rfl
    · rw [takeRecord_figures]
      rfl

/-! ## Every step -/

theorem completeSearch_figuresWf (c : Chan) {s : State} (h : FiguresWf s) :
    FiguresWf (completeSearch c s) := by
  unfold completeSearch
  split
  · next b i _ =>
    have written : FiguresWf (writeResult c b i (resolve c i s.stc) (leaveTable s)) :=
      figuresWf_of_figures_eq (writeResult_figures c b i _ _) h
    exact (figureOnly_handlePresses c _ _).figuresWf written (handlePresses_figureWf _ (written c))
  · exact figuresWf_of_figures_eq (fun d => updChan_figures (leaveTable s) d) h
  · exact figuresWf_of_figures_eq (beginSearch_figures c _ (leaveTable s)) h
  all_goals exact h

/-- The issue of a command, by what its body makes of well-formed figures. -/
theorem issue_figuresWf {p : PortId} {op : Command} {body : ParamBlock → State → State} {s : State}
    (h : FiguresWf s) (hb : ∀ i t, paramsOk op i = true → FiguresWf t → FiguresWf (body i t)) :
    FiguresWf (issue p op body s) :=
  issue_keeps h (fun _ h => h) (fun _ _ _ h => h) fun _ _ ok => hb _ _ ok h

/-- A figure command, by what it makes of the named channel's figure. -/
theorem withChannel_figuresWf {i : ParamBlock} {body : Chan → State → State} {s : State}
    (h : FiguresWf s) (only : ∀ c, FigureOnly c s (body c s))
    (own : ∀ c, ((body c s).chan c).FigureWf) : FiguresWf (withChannel i body s) := by
  unfold withChannel
  split
  · next c _ => exact (only c).figuresWf h (own c)
  · exact h

theorem armOk_of_paramsOk {i : ParamBlock} (ok : paramsOk .armFigure i = true) : armOk i = true :=
  ((Bool.and_eq_true _ _).mp ok).2

theorem resetChannelState_figureWf (ch : Channel) : (resetChannelState ch).FigureWf :=
  reset_channel_figureWf

theorem bodyOf_figuresWf (i : Instr) {s : State} (h : FiguresWf s) : FiguresWf (bodyOf i s) := by
  cases i
  case searchCompletion c => exact completeSearch_figuresWf c h
  case armFigure p =>
    exact issue_figuresWf h fun i t ok h => withChannel_figuresWf h
      (fun c => figureOnly_acceptArm p i c t)
      (fun c => acceptArm_figureWf (h c) (armOk_of_paramsOk ok))
  case cancelFigure p =>
    exact issue_figuresWf h fun i t _ h => withChannel_figuresWf h
      (fun c => figureOnly_acceptCancel p c t) (fun c => acceptCancel_figureWf (h c))
  case releaseFigure p =>
    exact issue_figuresWf h fun i t _ h => withChannel_figuresWf h
      (fun c => figureOnly_acceptRelease p i c t) (fun c => acceptRelease_figureWf (h c))
  case clearStall p =>
    exact issue_figuresWf h fun i t _ h => withChannel_figuresWf h
      (fun c => figureOnly_acceptClearStall p c t) (fun c => acceptClearStall_figureWf (h c))
  case resetChannel p =>
    refine issue_figuresWf h fun i t _ h => ?_
    unfold withChannel
    split
    · next c _ =>
      intro d
      simp only [acceptResetChannel, chan_complete, raiseIf_chan]
      exact bothChannels_updChan h (resetChannelState_figureWf _) d
    · exact h
  case setRest p =>
    exact issue_figuresWf h fun i t _ => figuresWf_of_figures_eq fun d => by
      rw [figures, acceptRest_chan]
      rfl
  case readCursor p =>
    exact issue_figuresWf h fun i t _ => figuresWf_of_chans_eq
      (withChannel_field State.chans i _ t fun _ _ => by simp)
  case setStation p =>
    exact issue_figuresWf h fun i t _ => figuresWf_of_chans_eq
      (withChannel_field State.chans i _ t fun _ _ => by simp)
  case loadCandidates | removeCandidates | setWindow | clearTable | setGrid | setSnap | readPicks
      | flushPicks | setPickThreshold | clearLink | setView | setStyle | fetchOverlay | readEvents
      | clearEvents | setEventMask | setBurst | identify =>
    exact issue_figuresWf h fun _ _ _ => figuresWf_of_chans_eq (by simp)
  case dataWrite p w =>
    dsimp only [bodyOf]
    split
    · exact figuresWf_of_figures_eq (moveWordIn_figures p w s) h
    · exact h
  case endOfInitialization =>
    dsimp only [bodyOf]
    split
    · exact figuresWf_of_figures_eq (fun d => by rw [figures, endStartUp_chan]; rfl) h
    · exact h
  case batchCompletion =>
    dsimp only [bodyOf]
    split
    · exact figuresWf_of_figures_eq (completeBatch_figures s) h
    · exact h
  case reSearch c =>
    dsimp only [bodyOf]
    split
    · exact figuresWf_of_figures_eq (beginSearch_figures c _ s) h
    · exact h
  case reportTake c => exact figuresWf_of_figures_eq (takeReport_figures c s) h
  case frameOffer => exact figuresWf_of_figures_eq (offerFrame_figures s) h
  case restTimerExpiry c => exact figuresWf_of_figures_eq (expireRest_figures c s) h
  case dataRead | dataPhaseTimeout | parameterWrite =>
    dsimp only [bodyOf]
    split <;> exact figuresWf_of_chans_eq (by simp) h
  all_goals exact figuresWf_of_chans_eq (by simp [bodyOf]) h

theorem figuresWf_keptByParts : KeptByParts FiguresWf where
  queue _ _ h := h
  attention _ _ h := h
  search c s h := figuresWf_of_figures_eq (startSearch_figures c s) h
  batch s h := figuresWf_of_chans_eq (by simp) h
  reset _ := bothChannels_iff.mp ⟨reset_channel_figureWf, reset_channel_figureWf⟩
  body i _ _ h := bodyOf_figuresWf i h

/-- Settles O58: the parts of a step keep both figures well formed. -/
theorem stepKeepsFiguresWellFormed : Obligations.StepKeepsFiguresWellFormed := fun _ _ step h =>
  bothChannels_iff.mpr (figuresWf_keptByParts.step step (bothChannels_iff.mp h))

end Sys2Proof.Machine
end

section
/-! The report queues, rest timers, re-search flags and cursor records stay well formed (R45, R65, R67,
R71). -/
namespace Sys2Proof.Machine

/-- What the guide says of a channel beside its figure. -/
structure Channel.PointerWf (ch : Channel) : Prop where
  queue : ch.QueueWf
  state : ch.StateWf
  cursor : ch.cursor.Wf

theorem pointerWf_iff {ch : Channel} :
    ch.PointerWf ↔ ch.QueueWf ∧ ch.StateWf ∧ ch.cursor.Wf :=
  ⟨fun h => ⟨h.queue, h.state, h.cursor⟩, fun ⟨q, s, c⟩ => ⟨q, s, c⟩⟩

/-- It reads nothing of the figure. -/
theorem pointerWf_of_besideFigure_eq {ch ch' : Channel}
    (same : ch'.besideFigure = ch.besideFigure) (h : ch.PointerWf) : ch'.PointerWf := by
  have beside : ch'.besideFigure.PointerWf := same ▸ ⟨h.queue, h.state, h.cursor⟩
  exact ⟨beside.queue, beside.state, beside.cursor⟩

/-! ## Report queues (R71 to R74) -/

theorem noPlainPair_tail {r : Report} {rest : List Report} (h : noPlainPair (r :: rest) = true) :
    noPlainPair rest = true := by
  cases rest with
  | nil => rfl
  | cons b rest => exact ((Bool.and_eq_true _ _).mp h).2

/-- A report may follow a queue whose youngest report is an edge, or be one itself. -/
theorem noPlainPair_append {q : List Report} {r : Report} (h : noPlainPair q = true)
    (edges : ∀ y, q.getLast? = some y → y.edge = true ∨ r.edge = true) :
    noPlainPair (q ++ [r]) = true := by
  induction q with
  | nil => rfl
  | cons a rest ih =>
    cases rest with
    | nil => simpa [noPlainPair] using edges a rfl
    | cons b rest =>
      rw [noPlainPair, Bool.and_eq_true] at h
      simp only [List.cons_append, noPlainPair, Bool.and_eq_true]
      exact ⟨h.1, ih h.2 fun y hy => edges y (by simpa using hy)⟩

theorem noPlainPair_dropLast {q : List Report} (h : noPlainPair q = true) :
    noPlainPair q.dropLast = true := by
  induction q with
  | nil => rfl
  | cons a rest ih =>
    rcases rest with _ | ⟨b, _ | ⟨c, rest⟩⟩
    · rfl
    · rfl
    · rw [noPlainPair, Bool.and_eq_true] at h
      exact (Bool.and_eq_true _ _).mpr ⟨h.1, ih h.2⟩

/-- Before a plain youngest report only an edge can stand. -/
theorem edge_before_plain {q : List Report} {y z : Report} (h : noPlainPair q = true)
    (youngest : q.getLast? = some y) (plain : y.edge = false)
    (before : q.dropLast.getLast? = some z) : z.edge = true := by
  induction q with
  | nil => simp at before
  | cons a rest ih =>
    rcases rest with _ | ⟨b, _ | ⟨c, rest⟩⟩
    · simp at before
    · simp only [List.getLast?_cons_cons, List.getLast?_singleton, Option.some.injEq] at youngest
      simp only [List.dropLast_cons_cons, List.dropLast_singleton, List.getLast?_singleton,
        Option.some.injEq] at before
      subst youngest before
      simpa [noPlainPair, plain] using h
    · rw [noPlainPair, Bool.and_eq_true] at h
      exact ih h.2 (by simpa using youngest) (by simpa using before)

/-- The queue's youngest report is plain. -/
def youngestPlain (q : List Report) : Bool :=
  match q.getLast? with
  | some y => !y.edge
  | none => false

theorem youngestPlain_iff {q : List Report} :
    youngestPlain q = true ↔ ∃ y, q.getLast? = some y ∧ y.edge = false := by
  unfold youngestPlain
  split
  · next y h => simp [h]
  · next h => simp [h]

/-- What becomes of an offered report (R73). -/
theorem joinQueue_eq (ch : Channel) (m : Message) :
    joinQueue ch m =
      if (!isEdge ch m && youngestPlain ch.queue) = true then
        some (ch.queue.dropLast ++ [{ msg := m, edge := isEdge ch m }])
      else if ch.queue.length < 4 then some (ch.queue ++ [{ msg := m, edge := isEdge ch m }])
      else none := rfl

theorem joinQueue_wf {ch : Channel} {m : Message} {q : List Report} (h : ch.QueueWf)
    (joins : joinQueue ch m = some q) :
    q.length ≤ Config.reportQueueReports ∧ noPlainPair q = true := by
  obtain ⟨length, apart⟩ := h
  rw [joinQueue_eq] at joins
  split at joins
  case isTrue replaces =>
    cases joins
    obtain ⟨_, plain⟩ := (Bool.and_eq_true _ _).mp replaces
    obtain ⟨y, youngest, plain⟩ := youngestPlain_iff.mp plain
    have nonempty : ch.queue ≠ [] := by
      rintro empty
      simp [empty] at youngest
    have positive := List.length_pos_iff.mpr nonempty
    refine ⟨?_, noPlainPair_append (noPlainPair_dropLast apart) fun z before =>
      .inl (edge_before_plain apart youngest plain before)⟩
    simp only [List.length_append, List.length_dropLast, List.length_singleton]
    omega
  case isFalse stays =>
    split at joins
    case isFalse => cases joins
    case isTrue room =>
      cases joins
      refine ⟨by simpa [Config.reportQueueReports] using room, noPlainPair_append apart fun y youngest => ?_⟩
      by_contra plain
      obtain ⟨plain, offeredPlain⟩ : y.edge = false ∧ isEdge ch m = false := by simpa using plain
      exact stays ((Bool.and_eq_true _ _).mpr
        ⟨by simp [offeredPlain], youngestPlain_iff.mpr ⟨y, youngest, plain⟩⟩)

/-! ## Cursor records (R65) -/

theorem resolveFree_basis_ne_hit (i : Inputs) (z : Zone) : (resolveFree i z).basis ≠ .hit := by
  unfold resolveFree
  dsimp only
  split <;> exact ResultBasis.noConfusion

/-- The record of a result: with a hit, inside the window and free of constraint, or without one. -/
theorem resultRecord_wf (c : Chan) (b : SearchBasis) (i : Inputs) (stc : TableController) :
    (resultRecord b i (resolve c i stc)).Wf := by
  have zone := resolve_zone c i stc
  by_cases hit : (stc.windows.get c).contains i.target = true ∧ ∃ e, chooseEntry c i stc.table = some e
  · obtain ⟨inside, e, chosen⟩ := hit
    have notOutside : (resolve c i stc).zone ≠ .outside := fun h => by
      rw [zone, zoneOf_eq_outside_iff, inside] at h
      cases h
    rw [resolve_of_choice inside chosen] at notOutside ⊢
    simpa [CursorRecord.Wf, resultRecord] using notOutside
  · have none : (stc.windows.get c).contains i.target = false ∨ chooseEntry c i stc.table = none := by
      by_contra some
      rw [not_or, Bool.not_eq_false] at some
      exact hit ⟨some.1, Option.ne_none_iff_exists'.mp some.2⟩
    rw [resolve_of_no_choice none]
    have notHit := resolveFree_basis_ne_hit i (zoneOf (stc.windows.get c) i.rc i.target)
    simp [CursorRecord.Wf, resultRecord, notHit]

/-- A hit drop leaves basis HIT with HIT_LOST (R30, R65). -/
theorem dropped_cursorWf {r : CursorRecord} (h : r.Wf) (hit : r.hit.isSome = true) :
    CursorRecord.Wf { r with hit := none, hitLost := true } := by
  obtain ⟨basis, -, degraded, ortho⟩ := h
  exact ⟨⟨fun _ => .inr rfl, fun _ => basis.mpr (.inl hit)⟩, fun _ => rfl, degraded, ortho⟩

theorem hit_isSome_of_hitLost {table : List Entry} {c : Chan} {r : CursorRecord}
    (h : hitLost table c r = true) : r.hit.isSome = true := by
  unfold hitLost at h
  split at h
  · cases h
  · next hit => simp [hit]

/-! ## Changes of one channel -/

theorem restartTimer_eq_stopped_iff (n : Nat) (t : RestTimer) :
    restartTimer n t = .stopped ↔ t = .stopped := by
  cases t <;> simp [restartTimer]

section
variable {ch : Channel} (h : ch.PointerWf)
include h

theorem pointerWf_search (x : Search) : Channel.PointerWf { ch with search := x } :=
  ⟨h.queue, h.state, h.cursor⟩

/-- A DETACHED channel's flag stays clear (R45). -/
theorem pointerWf_setFlag :
    Channel.PointerWf { ch with flag := ch.flag || ch.state != .detached } := by
  refine ⟨h.queue, ⟨h.state.1, fun detached => ?_⟩, h.cursor⟩
  have state : ch.state = .detached := detached
  simp [state, h.state.2 state]

theorem pointerWf_clearFlag : Channel.PointerWf { ch with flag := false } :=
  ⟨h.queue, ⟨h.state.1, fun _ => rfl⟩, h.cursor⟩

theorem pointerWf_tail {r : Report} {rest : List Report} (queue : ch.queue = r :: rest) :
    Channel.PointerWf { ch with queue := rest } := by
  obtain ⟨length, apart⟩ := h.queue
  rw [queue] at length apart
  exact ⟨⟨Nat.le_of_succ_le length, noPlainPair_tail apart⟩, h.state, h.cursor⟩

theorem pointerWf_join {m : Message} {q : List Report} (joins : joinQueue ch m = some q) :
    Channel.PointerWf { ch with queue := q } :=
  ⟨joinQueue_wf h.queue joins, h.state, h.cursor⟩

/-- The timer starts with TRACKING (R75, R79). -/
theorem pointerWf_track (bits : BitVec 3) (pt : TabletPoint) (n : Nat) :
    Channel.PointerWf
      { ch with buttons := bits, raw := pt, timer := .running n, state := .tracking } :=
  ⟨h.queue, ⟨⟨fun _ => rfl, fun _ => RestTimer.noConfusion⟩, ChanState.noConfusion⟩, h.cursor⟩

theorem pointerWf_buttons (bits : BitVec 3) : Channel.PointerWf { ch with buttons := bits } :=
  ⟨h.queue, h.state, h.cursor⟩

/-- The timer stops where TRACKING ends without DETACHED (R77, R80). -/
theorem pointerWf_stop {st : ChanState} (notTracking : st ≠ .tracking) (notDetached : st ≠ .detached) :
    Channel.PointerWf { ch with timer := .stopped, state := st } :=
  ⟨h.queue, ⟨⟨fun run => absurd rfl run, fun track => absurd track notTracking⟩,
    fun detached => absurd detached notDetached⟩, h.cursor⟩

theorem pointerWf_restart (n : Nat) :
    Channel.PointerWf { ch with timer := restartTimer n ch.timer } :=
  ⟨h.queue, ⟨(not_congr (restartTimer_eq_stopped_iff n ch.timer)).trans h.state.1, h.state.2⟩, h.cursor⟩

theorem pointerWf_settings (v : Settings) : Channel.PointerWf { ch with settings := v } :=
  ⟨h.queue, h.state, h.cursor⟩

end

theorem reset_pointerWf : Channel.reset.PointerWf :=
  ⟨reset_channel_queueWf, reset_channel_stateWf, reset_cursorWf⟩

theorem resetChannelState_pointerWf (ch : Channel) : (resetChannelState ch).PointerWf :=
  ⟨reset_channel_queueWf, reset_channel_stateWf, reset_cursorWf⟩

/-! ## Operations on both channels -/

/-- Both channels are well formed beside their figures. -/
def PointersWf (s : State) : Prop := ∀ d, (s.chan d).PointerWf

theorem FigureOnly.pointersWf {c : Chan} {s t : State} (only : FigureOnly c s t) (h : PointersWf s) :
    PointersWf t := fun d => pointerWf_of_besideFigure_eq (only.beside_both d) (h d)

theorem pointersWf_of_chans_eq {s t : State} (same : t.chans = s.chans) (h : PointersWf s) :
    PointersWf t := fun d => by
  rw [State.chan, same]
  exact h d

/-- An operation that leaves the other channel, by what it makes of its own. -/
theorem pointersWf_of_own (c : Chan) {s t : State} (h : PointersWf s)
    (other : ∀ d, d ≠ c → t.chan d = s.chan d) (own : (t.chan c).PointerWf) : PointersWf t := fun d => by
  by_cases same : d = c
  · exact same ▸ own
  · rw [other d same]
    exact h d

theorem setFlag_pointersWf (c : Chan) {s : State} (h : PointersWf s) : PointersWf (setFlag c s) :=
  bothChannels_updChan h (pointerWf_setFlag (h c))

theorem beginSearch_pointersWf (c : Chan) (b : SearchBasis) {s : State} (h : PointersWf s) :
    PointersWf (beginSearch c b s) := bothChannels_updChan h (pointerWf_search (h c) _)

theorem startSearch_pointersWf (c : Chan) {s : State} (h : PointersWf s) :
    PointersWf (startSearch c s) := by
  by_cases waiting : ∃ b, (s.chan c).search = .waiting b true
  · obtain ⟨b, waiting⟩ := waiting
    refine pointersWf_of_own c h (fun d hd => startSearch_chan_other c d s hd) ?_
    rw [startSearch_chan_of_waiting waiting]
    exact pointerWf_search (pointerWf_clearFlag (h c)) _
  · rw [startSearch_of_not_waiting (not_exists.mp waiting)]
    exact h

theorem releasing_pointersWf {s t : State} (h : PointersWf s)
    (released : ∀ d, t.chan d = { s.chan d with search := releaseSearch (s.chan d).search }) :
    PointersWf t := fun d => by
  rw [released]
  exact pointerWf_search (h d) _

theorem dropHit_pointersWf (c : Chan) {s : State} (h : PointersWf s) : PointersWf (dropHit c s) := by
  refine pointersWf_of_own c h (fun d hd => dropHit_chan_other s hd) ?_
  rw [dropHit_chan_same]
  split
  · next lost =>
    obtain ⟨queue, state, cursor⟩ := pointerWf_setFlag (h c)
    exact ⟨queue, state, dropped_cursorWf cursor (hit_isSome_of_hitLost lost)⟩
  · exact h c

theorem flagBatch_pointersWf (c : Chan) (b : List EditItem) {s : State} (h : PointersWf s) :
    PointersWf (flagBatch c b s) := by
  unfold flagBatch
  split
  · exact setFlag_pointersWf c h
  · exact h

theorem completeBatch_pointersWf {s : State} (h : PointersWf s) : PointersWf (completeBatch s) := by
  simp only [completeBatch]
  refine pointersWf_of_chans_eq (finishTable_frame _).1 (releasing_pointersWf ?_ (passTurn_chan _))
  refine flagBatch_pointersWf .c1 _ (flagBatch_pointersWf .c0 _ (dropHit_pointersWf .c1
    (dropHit_pointersWf .c0 (pointersWf_of_chans_eq ?_ h))))
  rw [(credit_frame _ _).1, (storeBatch_frame _ _).2.1]

theorem completeSearch_pointersWf (c : Chan) {s : State} (h : PointersWf s) :
    PointersWf (completeSearch c s) := by
  unfold completeSearch
  split
  · next b i _ =>
    refine (figureOnly_handlePresses c _ _).pointersWf (pointersWf_of_own c h
      (fun d hd => writeResult_chan_other _ _ _ _ hd) ?_)
    rw [writeResult_chan_same]
    exact ⟨(h c).queue, (h c).state, resultRecord_wf c b i s.stc⟩
  · exact bothChannels_updChan h (pointerWf_search (h c) _)
  · exact beginSearch_pointersWf c _ h
  all_goals exact h

theorem takeBeyond_pointersWf (c : Chan) (pt : TabletPoint) (bits : BitVec 3) {s : State}
    (h : PointersWf s) : PointersWf (takeBeyond c pt bits s) := by
  refine pointersWf_of_own c h (fun d hd => ?_) ?_
  · simp [takeBeyond, hd]
  · simp only [takeBeyond, beginSearch_chan_same, setChanState_chan_same, chan_updChan_same]
    exact pointerWf_search (pointerWf_track (h c) bits pt _) _

theorem takeProxOut_pointersWf (c : Chan) {s : State} (h : PointersWf s) :
    PointersWf (takeProxOut c s) := by
  have cleared : PointersWf (s.updChan c fun ch => { ch with buttons := 0 }) :=
    bothChannels_updChan h (pointerWf_buttons (h c) 0)
  unfold takeProxOut
  dsimp only
  split
  case h_1 | h_2 =>
    refine pointersWf_of_own c cleared (fun d hd => by simp [hd]) ?_
    rw [setChanState_chan_same, chan_updChan_same]
    exact pointerWf_stop (cleared c) ChanState.noConfusion ChanState.noConfusion
  all_goals exact cleared

theorem takeReport_pointersWf (c : Chan) {s : State} (h : PointersWf s) :
    PointersWf (takeReport c s) := by
  unfold takeReport
  split
  case h_1 r rest _ queue =>
    have taken : PointersWf (s.updChan c fun ch => { ch with queue := rest }) :=
      bothChannels_updChan h (pointerWf_tail (h c) queue)
    unfold actOnReport
    split
    case h_3 => exact takeProxOut_pointersWf c taken
    all_goals
      split
      · exact takeBeyond_pointersWf c _ _ taken
      · exact taken
  all_goals exact h

theorem expireRest_pointersWf (c : Chan) {s : State} (h : PointersWf s) :
    PointersWf (expireRest c s) := by
  unfold expireRest
  split
  · refine pointersWf_of_own c h (fun d hd => by simp [hd]) ?_
    rw [setChanState_chan_same, chan_updChan_same]
    exact pointerWf_stop (h c) ChanState.noConfusion ChanState.noConfusion
  · exact h

theorem offerFrame_pointersWf {s : State} (h : PointersWf s) : PointersWf (offerFrame s) := by
  cases held : s.link.holding with
  | nil => rwa [offerFrame_of_none_held held]
  | cons f rest =>
    cases joins : joinQueue (s.chan f.chan) f.msg with
    | none => rwa [offerFrame_refused held joins]
    | some q =>
      rw [offerFrame_joins held joins]
      exact bothChannels_updChan (f := fun ch => { ch with queue := q }) h
        (pointerWf_join (h f.chan) joins)

theorem takeRecord_pointersWf (p : PortId) (c : Progress) (words : List Word) {s : State}
    (h : PointersWf s) : PointersWf (takeRecord p c words s) := by
  unfold takeRecord
  split
  case h_4 =>
    unfold takeView
    split
    · exact h
    · intro d
      rw [chan_complete, acceptView_chan]
      exact pointerWf_search (pointerWf_setFlag (h d)) _
  case h_5 =>
    unfold takeGrid
    split
    · exact h
    · intro d
      rw [chan_complete, acceptGrid_chan]
      exact pointerWf_setFlag (h d)
  case h_6 =>
    unfold takeSettings
    split
    · next v d _ _ =>
      exact setFlag_pointersWf d (bothChannels_updChan h (pointerWf_settings (h d) v))
    · exact h
  all_goals exact pointersWf_of_chans_eq (by simp) h

theorem moveWordIn_pointersWf (p : PortId) (w : Word) {s : State} (h : PointersWf s) :
    PointersWf (moveWordIn p w s) := by
  unfold moveWordIn
  split
  · exact h
  · dsimp only
    split
    · exact h
    · exact takeRecord_pointersWf p _ _ h

/-! ## Every step -/

theorem issue_pointersWf {p : PortId} {op : Command} {body : ParamBlock → State → State} {s : State}
    (h : PointersWf s) (hb : ∀ i t, PointersWf t → PointersWf (body i t)) :
    PointersWf (issue p op body s) :=
  issue_keeps h (fun _ h => h) (fun _ _ _ h => h) fun _ _ _ => hb _ _ h

/-- A command on the figure of the named channel. -/
theorem withChannel_pointersWf {i : ParamBlock} {body : Chan → State → State} {s : State}
    (h : PointersWf s) (hb : ∀ c, PointersWf (body c s)) : PointersWf (withChannel i body s) := by
  unfold withChannel
  split
  · exact hb _
  · exact h

theorem bodyOf_pointersWf (i : Instr) {s : State} (h : PointersWf s) : PointersWf (bodyOf i s) := by
  cases i
  case searchCompletion c => exact completeSearch_pointersWf c h
  case armFigure p =>
    exact issue_pointersWf h fun i t h => withChannel_pointersWf h fun c =>
      (figureOnly_acceptArm p i c t).pointersWf h
  case cancelFigure p =>
    exact issue_pointersWf h fun i t h => withChannel_pointersWf h fun c =>
      (figureOnly_acceptCancel p c t).pointersWf h
  case releaseFigure p =>
    exact issue_pointersWf h fun i t h => withChannel_pointersWf h fun c =>
      (figureOnly_acceptRelease p i c t).pointersWf h
  case clearStall p =>
    exact issue_pointersWf h fun i t h => withChannel_pointersWf h fun c =>
      (figureOnly_acceptClearStall p c t).pointersWf h
  case resetChannel p =>
    refine issue_pointersWf h fun i t h => withChannel_pointersWf h fun c d => ?_
    simp only [acceptResetChannel, chan_complete, raiseIf_chan]
    exact bothChannels_updChan h (resetChannelState_pointerWf _) d
  case setRest p =>
    refine issue_pointersWf h fun i t h d => ?_
    rw [acceptRest_chan]
    exact pointerWf_restart (h d) _
  case readCursor p =>
    exact issue_pointersWf h fun i t h => withChannel_pointersWf h fun c =>
      pointersWf_of_chans_eq (by simp) h
  case setStation p =>
    exact issue_pointersWf h fun i t h => withChannel_pointersWf h fun c =>
      pointersWf_of_chans_eq (by simp) h
  case loadCandidates | removeCandidates | setWindow | clearTable | setGrid | setSnap | readPicks
      | flushPicks | setPickThreshold | clearLink | setView | setStyle | fetchOverlay | readEvents
      | clearEvents | setEventMask | setBurst | identify =>
    exact issue_pointersWf h fun _ _ => pointersWf_of_chans_eq (by simp)
  case dataWrite p w =>
    dsimp only [bodyOf]
    split
    · exact moveWordIn_pointersWf p w h
    · exact h
  case endOfInitialization =>
    dsimp only [bodyOf]
    split
    · exact releasing_pointersWf h (endStartUp_chan s)
    · exact h
  case batchCompletion =>
    dsimp only [bodyOf]
    split
    · exact completeBatch_pointersWf h
    · exact h
  case reSearch c =>
    dsimp only [bodyOf]
    split
    · exact beginSearch_pointersWf c _ h
    · exact h
  case reportTake c => exact takeReport_pointersWf c h
  case frameOffer => exact offerFrame_pointersWf h
  case restTimerExpiry c => exact expireRest_pointersWf c h
  case dataRead | dataPhaseTimeout | parameterWrite =>
    dsimp only [bodyOf]
    split <;> exact pointersWf_of_chans_eq (by simp) h
  all_goals exact pointersWf_of_chans_eq (by simp [bodyOf]) h

theorem pointersWf_keptByParts : KeptByParts PointersWf where
  queue _ _ h := h
  attention _ _ h := h
  search c _ h := startSearch_pointersWf c h
  batch s h := pointersWf_of_chans_eq (by simp) h
  reset _ := bothChannels_iff.mp ⟨reset_pointerWf, reset_pointerWf⟩
  body i _ _ h := bodyOf_pointersWf i h

/-- Settles O57: the parts of a step keep both channels well formed. -/
theorem stepKeepsChannelsWellFormed : Obligations.StepKeepsChannelsWellFormed := by
  unfold Obligations.StepKeepsChannelsWellFormed
  simp only [← pointerWf_iff, bothChannels_iff]
  exact fun _ _ => pointersWf_keptByParts.step

end Sys2Proof.Machine
end

section
/-! What most rows do to the ports and to the table: they raise events, follow the Pick Queue and complete
a command. A property that these three keep is kept by all such rows, which are gone through once here. -/
namespace Sys2Proof.Machine

/-- A property that reads of a state the ports, the Pick Queue and the table beside its count of searches
in flight, and that a raise and a change of the Pick Queue keep. -/
structure KeptByRaises (P : State → Prop) : Prop where
  frame : ∀ {s t}, P s → t.ports = s.ports → t.picks.records = s.picks.records →
    t.pickRaw = s.pickRaw → t.stc = { s.stc with inFlight := t.stc.inFlight } → P t
  raise : ∀ {e s}, e ≠ .pickAvailable → P s → P (raise e s)
  picks : ∀ {s} q, q.length ≤ max s.picks.records.length Config.pickQueueRecords → P s →
    P (followPicks { s with picks := { s.picks with records := q } })

/-- Such a property that the answers of port `p` to a command keep too. -/
structure KeptByCompletion (p : PortId) (P : State → Prop) : Prop extends KeptByRaises P where
  collide : ∀ {s}, P s → P (collide p s)
  accept : ∀ {s}, P s → P (accept p s)
  complete : ∀ {s} o f, P s → P (complete p o f s)

/-! ## Rows that raise events -/

/-- The rows that act on no port but by the events they raise. -/
def raisesOnly : Instr → Bool
  | .fsync | .byteArrival _ _ | .gapTimerExpiry | .restTimerExpiry _ | .searchCompletion _
  | .buildCompletion | .reSearch _ | .reportTake _ | .frameOffer => true
  | _ => false

namespace KeptByRaises

variable {P : State → Prop} (k : KeptByRaises P)
include k

/-- The frame, where the fields it speaks of are the same by definition. -/
theorem of_rfl {s t : State} (h : P s) (ports : t.ports = s.ports := by rfl)
    (records : t.picks.records = s.picks.records := by rfl) (raw : t.pickRaw = s.pickRaw := by rfl)
    (stc : t.stc = { s.stc with inFlight := t.stc.inFlight } := by rfl) : P t :=
  k.frame h ports records raw stc

theorem updChan (c : Chan) (f : Channel → Channel) {s : State} (h : P s) : P (s.updChan c f) :=
  k.of_rfl h

theorem raiseIf (b : Bool) {e : Event} {s : State} (other : e ≠ .pickAvailable) (h : P s) :
    P (Machine.raiseIf b e s) := by
  unfold Machine.raiseIf
  split
  · exact k.raise other h
  · exact h

theorem offerPick (r : PickRecord) {s : State} (h : P s) : P (Machine.offerPick r s) := by
  unfold Machine.offerPick
  split
  · next room =>
    refine k.raiseIf _ Event.noConfusion (k.picks _ ?_ h)
    have : s.picks.records.length < Config.pickQueueRecords := by simpa [picksHaveRoom] using room
    exact le_max_of_le_right (by simpa using this)
  · exact k.raise Event.noConfusion h

theorem removePick {s : State} (h : P s) : P (Machine.removePick s) :=
  k.picks s.picks.records.tail (le_max_of_le_left (List.length_tail ▸ Nat.sub_le _ _)) h

theorem setStage (c : Chan) (st : Stage) {s : State} (h : P s) : P (Machine.setStage c st s) :=
  k.raiseIf _ Event.noConfusion (k.updChan c _ h)

theorem clearAnchors (c : Chan) {s : State} (h : P s) : P (Machine.clearAnchors c s) :=
  k.updChan c _ h

theorem addAnchor (c : Chan) {s : State} (h : P s) : P (Machine.addAnchor c s) := k.updChan c _ h

theorem dropTemplate (c : Chan) {s : State} (h : P s) : P (Machine.dropTemplate c s) :=
  k.updChan c _ h

theorem applyAction (c : Chan) {s : State} (h : P s) : P (Machine.applyAction c s) := by
  unfold Machine.applyAction
  split
  · exact k.setStage c _ h
  · exact k.setStage c _ (k.clearAnchors c h)
  · exact k.setStage c _ (k.dropTemplate c (k.clearAnchors c h))
  · exact h

theorem offerRecord (c : Chan) (kind : RecordKind) (n : Nat) {s : State} (h : P s) :
    P (Machine.offerRecord c kind n s) := by
  have offered : P (Machine.offerPick (makeRecord c kind n s) s) := k.offerPick _ h
  unfold Machine.offerRecord
  dsimp only
  split
  · unfold recordAccepted
    split
    · exact offered
    · exact k.setStage c _ (k.addAnchor c offered)
    · exact k.applyAction c (k.addAnchor c offered)
    · exact k.applyAction c offered
    · exact k.setStage c _ (k.clearAnchors c offered)
  · unfold recordRefused
    split
    · exact k.setStage c _ (k.clearAnchors c offered)
    all_goals exact offered

theorem sequenceError (c : Chan) (r : ReturnStage) {s : State} (h : P s) :
    P (Machine.sequenceError c r s) :=
  k.raise Event.noConfusion (k.setStage c _ (k.updChan c _ h))

theorem handlePress (c : Chan) (pr : Press) {s : State} (h : P s) :
    P (Machine.handlePress c pr s) := by
  unfold Machine.handlePress
  split
  · exact k.offerRecord c _ _ h
  · unfold pressWithoutRecord
    split
    · exact k.sequenceError c _ h
    · exact k.sequenceError c _ h
    · exact k.raise Event.noConfusion h
    · unfold savePress
      split
      · exact k.updChan c _ h
      · exact k.raise Event.noConfusion h
    all_goals exact h

theorem handlePresses (c : Chan) (l : List Press) {s : State} (h : P s) :
    P (Machine.handlePresses c l s) := by
  induction l generalizing s with
  | nil => exact h
  | cons pr rest ih => exact ih (k.handlePress c pr h)

theorem setChanState (c : Chan) (st : ChanState) {s : State} (h : P s) :
    P (Machine.setChanState c st s) := k.raiseIf _ Event.noConfusion (k.updChan c _ h)

theorem setFlag (c : Chan) {s : State} (h : P s) : P (Machine.setFlag c s) := k.updChan c _ h

theorem beginSearch (c : Chan) (b : SearchBasis) {s : State} (h : P s) :
    P (Machine.beginSearch c b s) := k.updChan c _ h

theorem takeReport (c : Chan) {s : State} (h : P s) : P (Machine.takeReport c s) := by
  unfold Machine.takeReport
  split
  case h_1 r rest _ _ =>
    have taken : P (s.updChan c fun ch => { ch with queue := rest }) := k.updChan c _ h
    unfold actOnReport
    split
    case h_3 =>
      unfold takeProxOut
      dsimp only
      split
      case h_1 | h_2 => exact k.setChanState c _ (k.updChan c _ (k.updChan c _ taken))
      all_goals exact k.updChan c _ taken
    all_goals
      split
      · exact k.beginSearch c _ (k.setChanState c .tracking (k.updChan c _ taken))
      · exact taken
  all_goals exact h

theorem expireRest (c : Chan) {s : State} (h : P s) : P (Machine.expireRest c s) := by
  unfold Machine.expireRest
  split
  · exact k.setChanState c _ (k.updChan c _ h)
  · exact h

theorem leaveTable {s : State} (h : P s) : P (Machine.leaveTable s) := k.of_rfl h

theorem writeResult (c : Chan) (b : SearchBasis) (i : Inputs) (r : SearchResult) {s : State}
    (h : P s) : P (Machine.writeResult c b i r s) :=
  k.raiseIf _ Event.noConfusion (k.raiseIf _ Event.noConfusion (k.raiseIf _ Event.noConfusion
    (k.updChan c _ h)))

theorem completeSearch (c : Chan) {s : State} (h : P s) : P (Machine.completeSearch c s) := by
  unfold Machine.completeSearch
  split
  · exact k.handlePresses c _ (k.writeResult c _ _ _ (k.leaveTable h))
  · exact k.updChan c _ (k.leaveTable h)
  · exact k.beginSearch c _ (k.leaveTable h)
  all_goals exact h

theorem dropHit (c : Chan) {s : State} (h : P s) : P (Machine.dropHit c s) := by
  unfold Machine.dropHit
  split
  · exact k.setFlag c (k.raise Event.noConfusion (k.updChan c _ h))
  · exact h

theorem flagBatch (c : Chan) (b : List EditItem) {s : State} (h : P s) :
    P (Machine.flagBatch c b s) := by
  unfold Machine.flagBatch
  split
  · exact k.setFlag c h
  · exact h

theorem acceptView (v : Coord × Coord × Word × BitVec 4) {s : State} (h : P s) :
    P (Machine.acceptView v s) := by
  have viewed := k.raise (e := .viewChanged) Event.noConfusion (k.of_rfl (t := { s with view := _ }) h)
  exact k.of_rfl viewed

theorem startBuild {s : State} (h : P s) : P (Machine.startBuild s) :=
  k.frame h (by simp) (by simp) (by simp) (by simp)

theorem frameSync {s : State} (h : P s) : P (Machine.frameSync s) := by
  unfold Machine.frameSync
  dsimp only
  split
  · split
    · exact k.raise Event.noConfusion (k.of_rfl h)
    · exact k.startBuild (k.of_rfl h)
  · split
    · exact k.raise Event.noConfusion h
    · exact k.raise Event.noConfusion (k.startBuild h)

theorem releasePin {s : State} (h : P s) : P (Machine.releasePin s) :=
  k.frame h (by simp) (by simp) (by simp) (by simp)

theorem releaseFor (op : Command) {s : State} (h : P s) : P (Machine.releaseFor op s) :=
  k.frame h (by simp) (by simp) (by simp) (by simp)

theorem completeBuild {s : State} (h : P s) : P (Machine.completeBuild s) :=
  k.raiseIf _ Event.noConfusion (k.of_rfl h)

theorem framingError {s : State} (h : P s) : P (Machine.framingError s) :=
  k.raise Event.noConfusion (k.of_rfl h)

theorem completeFrame (bytes : List Byte) {s : State} (h : P s) :
    P (Machine.completeFrame bytes s) := by
  unfold Machine.completeFrame
  split
  · exact k.framingError h
  · have hunting : P (setAssembler .hunt s) := k.of_rfl h
    unfold deliverFrame
    split
    · split
      · exact k.of_rfl hunting
      · exact k.raise Event.noConfusion (k.of_rfl hunting)
    · exact hunting

theorem arrive (b : Byte) (stop : Bool) {s : State} (h : P s) : P (Machine.arrive b stop s) := by
  unfold Machine.arrive
  split
  · split
    · exact k.of_rfl h
    · exact h
  · split
    · unfold frameByte
      dsimp only
      split
      · exact h
      · exact k.of_rfl h
      · split
        · exact k.framingError h
        · split
          · exact k.of_rfl h
          · exact k.completeFrame _ h
    · exact k.framingError h

theorem expireGap {s : State} (h : P s) : P (Machine.expireGap s) := by
  unfold Machine.expireGap
  split
  · exact h
  · exact k.framingError h

theorem bodyOf {i : Instr} {s : State} (row : raisesOnly i = true) (h : P s) :
    P (Machine.bodyOf i s) := by
  cases i
  case fsync => exact k.frameSync h
  case byteArrival b stop => exact k.of_rfl (k.arrive b stop h)
  case gapTimerExpiry => exact k.expireGap h
  case restTimerExpiry c => exact k.expireRest c h
  case searchCompletion c => exact k.completeSearch c h
  case buildCompletion => exact k.completeBuild h
  case reSearch c =>
    dsimp only [Machine.bodyOf]
    split
    · exact k.beginSearch c _ h
    · exact h
  case reportTake c => exact k.takeReport c h
  case frameOffer =>
    exact k.frame h (by simp [Machine.bodyOf]) (by simp [Machine.bodyOf]) (by simp [Machine.bodyOf])
      (by simp [Machine.bodyOf])
  all_goals cases row

end KeptByRaises

/-! ## Rows that complete a command -/

/-- The port of a command row that acts on no port but by its completion and the events it raises. -/
def completingPort : Instr → Option PortId
  | .setRest p | .resetChannel p | .armFigure p | .cancelFigure p | .releaseFigure p | .clearStall p
  | .flushPicks p | .setPickThreshold p | .setStation p | .clearLink p | .setStyle p | .readEvents p
  | .unknownCommand p _ => some p
  | _ => none

/-- A command on the named channel. -/
theorem withChannel_keeps {P : State → Prop} {i : ParamBlock} {body : Chan → State → State}
    {s : State} (h : P s) (hb : ∀ c, P (body c s)) : P (withChannel i body s) := by
  unfold withChannel
  split
  · exact hb _
  · exact h

namespace KeptByCompletion

variable {P : State → Prop} {p : PortId} (k : KeptByCompletion p P)
include k

theorem refuse (f : FaultCode) {s : State} (h : P s) : P (Machine.refuse p f s) :=
  k.complete .zero f h

theorem issue {op : Command} {body : ParamBlock → State → State} {s : State} (h : P s)
    (hb : (s.port p).state = .ready → inRole op p = true → paramsOk op (s.port p).window = true →
      P (Machine.accept p s) → P (body (s.port p).window (Machine.accept p s))) :
    P (Machine.issue p op body s) :=
  issue_keeps h (fun _ => k.collide) (fun _ _ _ h => k.refuse _ (k.accept h))
    fun ready role ok => hb ready role ok (k.accept h)

theorem acceptArm (i : ParamBlock) (c : Chan) {s : State} (h : P s) :
    P (Machine.acceptArm p i c s) := by
  unfold Machine.acceptArm
  dsimp only
  split
  · exact k.refuse _ h
  · split
    · exact k.refuse _ h
    · exact k.complete _ _ (k.setStage c _ (k.updChan c _ h))

theorem acceptCancel (c : Chan) {s : State} (h : P s) : P (Machine.acceptCancel p c s) := by
  unfold Machine.acceptCancel
  dsimp only
  split
  case h_3 | h_4 => exact k.complete _ _ (k.offerRecord c _ _ h)
  case h_5 => exact k.refuse _ h
  all_goals exact k.complete _ _ h

theorem acceptRelease (i : ParamBlock) (c : Chan) {s : State} (h : P s) :
    P (Machine.acceptRelease p i c s) := by
  unfold Machine.acceptRelease
  dsimp only
  split
  · refine k.complete _ _ ?_
    unfold releaseHeld
    split
    · exact k.setStage c _ (k.dropTemplate c (k.clearAnchors c h))
    · exact k.setStage c _ (k.clearAnchors c h)
  · exact k.refuse _ h

theorem acceptClearStall (c : Chan) {s : State} (h : P s) : P (Machine.acceptClearStall p c s) := by
  unfold Machine.acceptClearStall
  dsimp only
  split
  case h_1 r _ _ =>
    have ended : P (endStall c r s) := k.setStage c _ (k.updChan c _ h)
    refine k.complete _ _ ?_
    unfold replay
    split
    · exact ended
    · exact k.handlePress c _ ended
  all_goals exact k.refuse _ h

theorem acceptResetChannel (c : Chan) {s : State} (h : P s) :
    P (Machine.acceptResetChannel p c s) :=
  k.complete _ _ (k.raiseIf _ Event.noConfusion (k.raiseIf _ Event.noConfusion (k.updChan c _ h)))

theorem takeView (w : List Word) {s : State} (h : P s) : P (Machine.takeView p w s) := by
  unfold Machine.takeView
  split
  · exact k.complete _ _ h
  · exact k.complete _ _ (k.acceptView _ h)

theorem takeGrid (w : List Word) {s : State} (h : P s) : P (Machine.takeGrid p w s) := by
  unfold Machine.takeGrid
  split
  · exact k.complete _ _ h
  · exact k.complete _ _ (k.of_rfl h)

theorem takeSettings (i : ParamBlock) (w : List Word) {s : State} (h : P s) :
    P (Machine.takeSettings p i w s) := by
  unfold Machine.takeSettings
  split
  · exact k.complete _ _ (k.of_rfl h)
  · exact k.complete _ _ h

theorem bodyOf {i : Instr} {s : State} (row : completingPort i = some p) (h : P s) :
    P (Machine.bodyOf i s) := by
  cases i <;> try cases row
  all_goals dsimp only [Machine.bodyOf]
  case resetChannel =>
    refine k.issue h fun _ _ _ h => ?_
    exact withChannel_keeps h fun c => k.acceptResetChannel c h
  case armFigure =>
    refine k.issue h fun _ _ _ h => ?_
    exact withChannel_keeps h fun c => k.acceptArm _ c h
  case cancelFigure =>
    refine k.issue h fun _ _ _ h => ?_
    exact withChannel_keeps h fun c => k.acceptCancel c h
  case releaseFigure =>
    refine k.issue h fun _ _ _ h => ?_
    exact withChannel_keeps h fun c => k.acceptRelease _ c h
  case clearStall =>
    refine k.issue h fun _ _ _ h => ?_
    exact withChannel_keeps h fun c => k.acceptClearStall c h
  case setStation =>
    refine k.issue h fun _ _ _ h => ?_
    exact withChannel_keeps h fun _ => k.complete _ _ (k.of_rfl h)
  case flushPicks =>
    refine k.issue h fun _ _ _ h => ?_
    exact k.complete _ _ (k.picks [] (Nat.zero_le _) h)
  case setRest | setPickThreshold | clearLink | setStyle | readEvents =>
    refine k.issue h fun _ _ _ h => ?_
    exact k.complete _ _ (k.of_rfl h)
  case unknownCommand =>
    unfold issueUnknown
    split
    · exact k.collide h
    · exact k.refuse _ (k.accept h)

end KeptByCompletion

end Sys2Proof.Machine
end

section
/-! Attention and the event sets: the outputs agree with the grounds, PICK_AVAILABLE follows the Pick
Queue, and the reserved positions stay 0 (R114, R118, R184, R185, R189, R190, R196). -/
namespace Sys2Proof.Machine

/-! ## The attention outputs -/

theorem nextAttn_eq_off_iff (old new : PortState) :
    nextAttn old new = .off ↔ anyGround new = false := by
  unfold nextAttn
  cases ground : anyGround new
  · cases new.attn <;> simp
  · split
    · simp
    · cases new.attn <;> simp [apply_ite (· = AttnOut.off)]

theorem nextAttn_of_level {old new : PortState} (level : new.mode = .level) :
    nextAttn old new ≠ .pulsing := by
  unfold nextAttn
  rw [if_pos (.inl level)]
  split <;> exact AttnOut.noConfusion

/-- Whatever an event did, the outputs driven at its end agree with the grounds. -/
theorem driveAttention_attentionWf (old new : State) : AttentionWf (driveAttention old new) := by
  have driven (a b : PortState) : PortState.AttnWf { b with attn := nextAttn a b } :=
    ⟨nextAttn_eq_off_iff a b, fun level => nextAttn_of_level (new := b) level⟩
  exact ⟨driven _ _, driven _ _⟩

theorem attentionWf_of_ports_eq {s t : State} (same : t.ports = s.ports) (h : AttentionWf s) :
    AttentionWf t := by
  unfold AttentionWf at h ⊢
  rwa [same]

theorem step_attentionWf {s t : State} (h : step s = .next t) (hs : AttentionWf s) :
    AttentionWf t := by
  unfold step at h
  split at h
  · cases h
    exact hs
  · rcases exec_next h with rfl | rfl | rfl | ⟨c, rfl⟩
    · exact driveAttention_attentionWf _ _
    · exact attentionWf_of_ports_eq rfl reset_attentionWf
    · exact driveAttention_attentionWf _ _
    · exact attentionWf_of_ports_eq (startSearch_frame c _).1 hs

/-! ## What the event sets depend on -/

/-- The latched set and the mask of a port. -/
def PortState.sets (q : PortState) : EventSet × EventSet := (q.latched, q.mask)

/-- The part of a state that the Event Unit and the Pick Queue hold of events. -/
def eventState (s : State) : List PickRecord × Bool × (EventSet × EventSet) × (EventSet × EventSet) :=
  (s.picks.records, s.pickRaw, (s.port .a).sets, (s.port .b).sets)

theorem eventState_eq {s t : State} (records : t.picks.records = s.picks.records)
    (raw : t.pickRaw = s.pickRaw) (sets : ∀ p, (t.port p).sets = (s.port p).sets) :
    eventState t = eventState s := by
  simp only [eventState, records, raw, sets]

theorem eventState_of_unchanged {s t : State} (ports : t.ports = s.ports) (picks : t.picks = s.picks)
    (raw : t.pickRaw = s.pickRaw) : eventState t = eventState s := by
  simp only [eventState, State.port, ports, picks, raw]

@[simp] theorem eventState_updPort {f : PortState → PortState} (p : PortId) (s : State)
    (h : ∀ q, (f q).sets = q.sets) : eventState (s.updPort p f) = eventState s := by
  cases p <;> simp [eventState, h, State.updPort, State.setPort, State.port, PerPort.get, PerPort.set]

@[simp] theorem eventState_updChan (c : Chan) (f : Channel → Channel) (s : State) :
    eventState (s.updChan c f) = eventState s := rfl

@[simp] theorem eventState_collide (p : PortId) (s : State) :
    eventState (collide p s) = eventState s := eventState_updPort p s fun _ => rfl

@[simp] theorem eventState_accept (p : PortId) (s : State) :
    eventState (accept p s) = eventState s := eventState_updPort p s fun _ => rfl

@[simp] theorem eventState_complete (p : PortId) (o : ParamBlock) (f : FaultCode) (s : State) :
    eventState (complete p o f s) = eventState s := eventState_updPort p s fun _ => rfl

@[simp] theorem eventState_refuse (p : PortId) (f : FaultCode) (s : State) :
    eventState (refuse p f s) = eventState s := eventState_complete p _ f s

@[simp] theorem eventState_updCmd (p : PortId) (f : Progress → Progress) (s : State) :
    eventState (updCmd p f s) = eventState s := eventState_updPort p s fun _ => rfl

@[simp] theorem eventState_openRecord (p : PortId) (s : State) :
    eventState (openRecord p s) = eventState s := by
  unfold openRecord
  split
  · rfl
  · split <;> exact eventState_updPort p s fun _ => rfl

@[simp] theorem eventState_startDataIn (p : PortId) (op : Command) (i : ParamBlock) (n : Nat)
    (s : State) : eventState (startDataIn p op i n s) = eventState s :=
  (eventState_openRecord p _).trans (eventState_updPort p s fun _ => rfl)

@[simp] theorem eventState_startDataOut (p : PortId) (op : Command) (i : ParamBlock) (n : Nat)
    (w : List Word) (s : State) : eventState (startDataOut p op i n w s) = eventState s :=
  (eventState_openRecord p _).trans (eventState_updPort p s fun _ => rfl)

@[simp] theorem eventState_countRecord (p : PortId) (s : State) :
    eventState (countRecord p s) = eventState s := eventState_updCmd p _ s

@[simp] theorem eventState_present (p : PortId) (w : List Word) (s : State) :
    eventState (present p w s) = eventState s :=
  (eventState_openRecord p _).trans (eventState_updCmd p _ s)

@[simp] theorem eventState_finishTable (s : State) : eventState (finishTable s) = eventState s := by
  unfold finishTable
  split
  · rfl
  · split
    · exact eventState_complete ..
    · rfl

@[simp] theorem eventState_endTablePhase (f : FaultCode) (s : State) :
    eventState (endTablePhase f s) = eventState s :=
  (eventState_finishTable _).trans (eventState_updPort .a s fun _ => rfl)

@[simp] theorem eventState_joinItem (k : EditKind) (s : State) :
    eventState (joinItem k s) = eventState s := rfl

@[simp] theorem eventState_recordStands (s : State) : eventState (recordStands s) = eventState s := by
  unfold recordStands
  dsimp only
  split
  · exact eventState_countRecord .a s
  · split <;> simp

theorem eventState_joinWaitingClear (s : State) :
    eventState (joinWaitingClear s) = eventState s := by
  unfold joinWaitingClear
  split
  · rfl
  · split
    · exact eventState_updCmd .a _ _
    · rfl

theorem eventState_openWithheld (s : State) : eventState (openWithheld s) = eventState s := by
  unfold openWithheld
  dsimp only
  split
  · exact eventState_openRecord .a s
  · rfl

@[simp] theorem eventState_startBatch (s : State) : eventState (startBatch s) = eventState s := by
  unfold startBatch
  split
  · rw [eventState_openWithheld, eventState_joinWaitingClear]
    rfl
  · rfl

@[simp] theorem eventState_startSearch (c : Chan) (s : State) :
    eventState (startSearch c s) = eventState s := eventState_of_unchanged (by simp) (by simp) (by simp)

@[simp] theorem eventState_driveAttention (old s : State) :
    eventState (driveAttention old s) = eventState s := rfl

@[simp] theorem eventState_driveHold (s : State) : eventState (driveHold s) = eventState s := rfl

@[simp] theorem eventState_takeEntry (w : List Word) (s : State) :
    eventState (takeEntry w s) = eventState s := by
  unfold takeEntry
  split
  · exact eventState_endTablePhase .record s
  · split
    · rw [eventState_recordStands, eventState_joinItem]
      rfl
    · exact eventState_endTablePhase .full s

@[simp] theorem eventState_takeRemoval (w : List Word) (s : State) :
    eventState (takeRemoval w s) = eventState s := by
  unfold takeRemoval
  split <;> simp

@[simp] theorem eventState_takeWindow (i : ParamBlock) (w : List Word) (s : State) :
    eventState (takeWindow i w s) = eventState s := by
  unfold takeWindow
  split <;> simp

@[simp] theorem eventState_setFlag (c : Chan) (s : State) :
    eventState (setFlag c s) = eventState s := rfl

theorem eventState_takeGrid (p : PortId) (w : List Word) (s : State) :
    eventState (takeGrid p w s) = eventState s := by
  unfold takeGrid
  split <;> exact eventState_complete ..

theorem eventState_takeSettings (p : PortId) (i : ParamBlock) (w : List Word) (s : State) :
    eventState (takeSettings p i w s) = eventState s := by
  unfold takeSettings
  split <;> exact eventState_complete ..

theorem eventState_acceptClear (p : PortId) (i : ParamBlock) (s : State) :
    eventState (acceptClear p i s) = eventState s := by
  have busy : eventState (s.updPort p fun q =>
      { q with state := .busy, cmd := some (.start .clearTable i 0 []) }) = eventState s :=
    eventState_updPort p s fun _ => rfl
  unfold acceptClear
  dsimp only
  split
  · exact busy
  · exact (eventState_updCmd p _ _).trans busy

theorem eventState_acceptReadPicks (p : PortId) (i : ParamBlock) (s : State) :
    eventState (acceptReadPicks p i s) = eventState s := by
  unfold acceptReadPicks
  split <;> simp

theorem eventState_acceptFetch (p : PortId) (i : ParamBlock) (s : State) :
    eventState (acceptFetch p i s) = eventState s := by
  unfold acceptFetch
  split
  · rw [eventState_updCmd, eventState_startDataOut]
    rfl
  · rw [eventState_updCmd, eventState_startDataOut]

@[simp] theorem eventState_startBuild (s : State) : eventState (startBuild s) = eventState s :=
  eventState_of_unchanged (by simp) (by simp) (by simp)

@[simp] theorem eventState_releaseFor (op : Command) (s : State) :
    eventState (releaseFor op s) = eventState s :=
  eventState_of_unchanged (by simp) (by simp) (by simp)

@[simp] theorem eventState_releasePin (s : State) : eventState (releasePin s) = eventState s :=
  eventState_of_unchanged (by simp) (by simp) (by simp)

theorem eventState_frameRecordRead (p : PortId) (s : State) :
    eventState (frameRecordRead p s) = eventState s := by
  unfold frameRecordRead
  dsimp only
  split
  · exact eventState_countRecord p s
  · split
    · simp
    · split <;> simp

theorem eventState_timeOut (p : PortId) (s : State) : eventState (timeOut p s) = eventState s := by
  unfold timeOut
  split
  · rfl
  · split <;> simp

theorem eventState_abandon (p : PortId) (s : State) : eventState (abandon p s) = eventState s :=
  eventState_of_unchanged (by simp) (by simp) (by simp)

theorem eventState_endStartUp (s : State) : eventState (endStartUp s) = eventState s := by
  have left (q : PortState) : (leaveStartUp q).sets = q.sets := by
    unfold leaveStartUp
    split <;> rfl
  simp only [eventState, endStartUp, State.port, PerPort.get, left]
  rfl

/-! ## What changes the event sets -/

/-- A property that reads the event state alone and is kept by each thing that changes it. -/
structure KeptByEvents (P : State → Prop) : Prop where
  frame : ∀ {s t}, eventState t = eventState s → P s → P t
  raise : ∀ {e s}, e ≠ .pickAvailable → P s → P (raise e s)
  picks : ∀ {s} q, q.length ≤ max s.picks.records.length Config.pickQueueRecords → P s →
    P (followPicks { s with picks := { s.picks with records := q } })
  clear : ∀ p named s, P s → P (s.updPort p fun q =>
    { q with latched := clearSet s.pickRaw named (s.port p).latched })
  mask : ∀ p (i : ParamBlock) s, i.eventsOk = true → P s → P (s.updPort p fun q => { q with mask := i.events })
  held : ∀ p v s, P s → P (s.updPort p (heldPort s.pickRaw v))
  reset : P .reset

namespace KeptByEvents

variable {P : State → Prop} (k : KeptByEvents P)
include k

/-- The completions and collisions of a port leave the event state. -/
theorem completion (p : PortId) : KeptByCompletion p P where
  frame h ports records raw _ :=
    k.frame (eventState_eq records raw fun _ => by rw [State.port, ports]; rfl) h
  raise := k.raise
  picks := k.picks
  collide h := k.frame (eventState_collide ..) h
  accept h := k.frame (eventState_accept ..) h
  complete o f h := k.frame (eventState_complete ..) h

/-- The frame, where the two event states are the same by definition. -/
theorem of_rfl {s t : State} (h : P s) (same : eventState t = eventState s := by rfl) : P t :=
  k.frame same h

/-- A change of a port that leaves its sets. -/
theorem updPort (p : PortId) {f : PortState → PortState} {s : State} (h : P s)
    (same : ∀ q, (f q).sets = q.sets := by exact fun _ => rfl) : P (s.updPort p f) :=
  k.frame (eventState_updPort p s same) h

/-! ### Batches and data phases -/

theorem completeBatch {s : State} (h : P s) : P (Machine.completeBatch s) := by
  have credited (n : TableCounts) (b : BatchWork) : P (credit n (storeBatch b s)) :=
    k.frame (eventState_updCmd .a _ _) (k.of_rfl h)
  have flagged (c : Chan) (b : List EditItem) (t : State) : eventState (flagBatch c b t) = eventState t :=
    eventState_of_unchanged (by simp) (by simp) (by simp)
  have passed (t : State) : eventState (passTurn t) = eventState t := rfl
  have finished (b : List EditItem) {t : State} (h : P t) :
      P (finishTable (passTurn (flagBatch .c1 b (flagBatch .c0 b t)))) :=
    k.frame (by rw [eventState_finishTable, passed, flagged, flagged]) h
  exact finished _ ((k.completion .a).dropHit .c1 ((k.completion .a).dropHit .c0 (credited _ _)))

theorem moveWordIn (p : PortId) (w : Word) {s : State} (h : P s) : P (Machine.moveWordIn p w s) := by
  unfold Machine.moveWordIn
  split
  · exact h
  · next c _ =>
    have moved : P (updCmd p (fun d => { d with words := c.words ++ [w] })
        (s.updPort p fun q => { q with burstAttn := false })) :=
      k.frame ((eventState_updCmd p _ _).trans (eventState_updPort p s fun _ => rfl)) h
    dsimp only
    split
    · exact moved
    · have whole := k.frame (eventState_updPort (f := fun q => { q with dreq := false }) p _
        fun _ => rfl) moved
      unfold takeRecord
      split
      · exact k.frame (eventState_takeEntry ..) whole
      · exact k.frame (eventState_takeRemoval ..) whole
      · exact k.frame (eventState_takeWindow ..) whole
      · exact (k.completion p).takeView _ whole
      · exact k.frame (eventState_takeGrid ..) whole
      · exact k.frame (eventState_takeSettings ..) whole
      all_goals exact whole

theorem pickRead (p : PortId) {s : State} (h : P s) : P (Machine.pickRead p s) := by
  have removed := (k.completion p).removePick (k.frame (eventState_countRecord p s) h)
  unfold Machine.pickRead
  dsimp only
  split
  · exact removed
  · split
    · exact (k.completion p).complete _ _ removed
    · exact k.frame (eventState_present ..) removed

theorem moveWordOut (p : PortId) {s : State} (h : P s) : P (Machine.moveWordOut p s) := by
  unfold Machine.moveWordOut
  split
  · exact h
  · next c _ =>
    have moved : P (updCmd p (fun d => { d with words := c.words.tail })
        (s.updPort p fun q => { q with burstAttn := false, readData := c.words.headD 0 })) :=
      k.frame ((eventState_updCmd p _ _).trans (eventState_updPort p s fun _ => rfl)) h
    dsimp only
    split
    · have whole := k.frame (eventState_updPort (f := fun q => { q with dreq := false }) p _
        fun _ => rfl) moved
      unfold recordRead
      split
      · exact k.pickRead p whole
      · exact k.frame (eventState_frameRecordRead ..) whole
      case h_3 | h_4 => exact (k.completion p).complete _ _ whole
      all_goals exact whole
    · exact moved

theorem writeControl (p : PortId) (v : Byte) {s : State} (h : P s) :
    P (Machine.writeControl p v s) := by
  unfold Machine.writeControl
  dsimp only
  split
  · exact k.frame (eventState_collide p s) h
  · split
    · split
      · exact k.frame (eventState_updPort p s fun _ => rfl) h
      · have held := k.held p v _ (k.frame (eventState_abandon p s) h)
        rwa [(abandon_frame p s).2.2.2.2.2.2.2.1] at held
    · split <;> exact k.frame (eventState_updPort p s fun _ => rfl) h

/-! ### Every row -/

theorem bodyOf (i : Instr) {s : State} (h : P s) : P (Machine.bodyOf i s) := by
  by_cases raises : raisesOnly i = true
  · exact (k.completion .a).toKeptByRaises.bodyOf raises h
  by_cases completes : ∃ p, completingPort i = some p
  · obtain ⟨p, row⟩ := completes
    exact (k.completion p).bodyOf row h
  cases i
  all_goals
    first
      | exact absurd rfl raises
      | exact absurd ⟨_, rfl⟩ completes
      | dsimp only [Machine.bodyOf]
  case readCursor p =>
    refine (k.completion p).issue h fun _ _ _ h => withChannel_keeps h fun c => ?_
    exact k.frame (eventState_startDataOut ..) h
  case clearEvents p =>
    refine (k.completion p).issue h fun _ _ _ h => ?_
    exact (k.completion p).complete _ _ (k.clear p _ _ h)
  case setEventMask p =>
    refine (k.completion p).issue h fun _ _ ok h => ?_
    have named : (s.port p).window.eventsOk = true := ((Bool.and_eq_true _ _).mp ok).2
    exact (k.completion p).complete _ _ (k.mask p _ _ named h)
  case setBurst p =>
    refine (k.completion p).issue h fun _ _ _ h => ?_
    exact (k.completion p).complete _ _ (k.updPort p h)
  case loadCandidates p | removeCandidates p | setWindow p | setGrid p | setSnap p | setView p =>
    exact (k.completion p).issue h fun _ _ _ => k.frame (eventState_startDataIn ..)
  case identify p => exact (k.completion p).issue h fun _ _ _ => k.frame (eventState_startDataOut ..)
  case clearTable p => exact (k.completion p).issue h fun _ _ _ => k.frame (eventState_acceptClear ..)
  case readPicks p => exact (k.completion p).issue h fun _ _ _ => k.frame (eventState_acceptReadPicks ..)
  case fetchOverlay p => exact (k.completion p).issue h fun _ _ _ => k.frame (eventState_acceptFetch ..)
  case dataWrite p w =>
    split
    · exact k.moveWordIn p w h
    · exact k.frame (eventState_collide p s) h
  case dataRead p =>
    split
    · exact k.moveWordOut p h
    · exact k.updPort p (k.frame (eventState_collide p s) h)
  case statusRead p => exact k.updPort p h
  case parameterWrite p pos v =>
    split <;> exact k.updPort p h
  case portSoftReset p v | softResetRelease p v | commandAttentionEnable p v
      | attentionMode p v =>
    exact k.writeControl p v h
  case endOfInitialization =>
    split
    · exact k.frame (eventState_endStartUp s) h
    · exact h
  case dataPhaseTimeout p =>
    split
    · exact k.frame (eventState_timeOut p s) h
    · exact h
  case pulseEnd p =>
    refine k.updPort p h fun q => ?_
    unfold endPulse
    split <;> rfl
  case batchCompletion =>
    split
    · exact k.completeBatch h
    · exact h
  case deviceReset | batchStart | searchStart => exact h

theorem keptByParts : KeptByParts P where
  queue _ _ h := k.of_rfl h
  attention _ _ h := k.of_rfl h
  search c s := k.frame (eventState_startSearch c s)
  batch s := k.frame (eventState_startBatch s)
  reset _ := k.of_rfl k.reset
  body i _ _ := k.bodyOf i

end KeptByEvents

/-! ## PICK_AVAILABLE follows the Pick Queue -/

theorem picksWf_iff {s : State} :
    PicksWf s ↔ s.picks.records.length ≤ Config.pickQueueRecords ∧
      s.pickRaw = !s.picks.records.isEmpty ∧
      ∀ p, Event.pickAvailable.isIn (s.port p).sets.1 = s.pickRaw := by
  refine and_congr_right fun _ => and_congr_right fun _ => ⟨fun ⟨a, b⟩ p => ?_, fun h => ⟨h .a, h .b⟩⟩
  cases p
  · exact a
  · exact b

/-- A property of the sets of both ports after one port's have changed. -/
theorem forall_sets_updPort {P : EventSet × EventSet → Prop} {p : PortId}
    {f : PortState → PortState} {s : State} (h : ∀ r, P (s.port r).sets)
    (hf : P (f (s.port p)).sets) (r : PortId) : P ((s.updPort p f).port r).sets := by
  by_cases same : r = p
  · subst same
    rwa [port_updPort_same]
  · rw [port_updPort_other _ _ _ _ same]
    exact h r

theorem isIn_raise_other {e e' : Event} (set : EventSet) (other : e' ≠ e) :
    e.isIn (set ||| e'.toSet) = e.isIn set := by
  have := isIn_toSet e e'
  simp only [Event.isIn] at this ⊢
  simp [BitVec.getLsbD_or, this, other.symm]

theorem pickAvailable_isIn_withPickAvailable (raw : Bool) (set : EventSet) :
    Event.pickAvailable.isIn (withPickAvailable raw set) = raw := by
  cases raw <;> simp [withPickAvailable, Event.isIn, Event.toSet, Event.pos]

theorem pickAvailable_isIn_clearSet {raw : Bool} {set : EventSet} (named : EventSet)
    (h : Event.pickAvailable.isIn set = raw) :
    Event.pickAvailable.isIn (clearSet raw named set) = raw := by
  cases raw <;> simp_all [clearSet, Event.isIn, Event.toSet, Event.pos]

theorem picksWf_keptByEvents : KeptByEvents PicksWf where
  frame {s t} same h := by
    simp only [eventState, Prod.mk.injEq] at same
    obtain ⟨records, raw, a, b⟩ := same
    rw [picksWf_iff] at h ⊢
    obtain ⟨length, follows, latched⟩ := h
    rw [records, raw]
    refine ⟨length, follows, fun p => ?_⟩
    cases p
    · rw [a]; exact latched .a
    · rw [b]; exact latched .b
  raise {e s} other h := by
    rw [picksWf_iff] at h ⊢
    refine ⟨h.1, h.2.1, fun p => ?_⟩
    rw [port_raise]
    exact (isIn_raise_other _ other).trans (h.2.2 p)
  picks {s} q length h := by
    rw [picksWf_iff] at h ⊢
    refine ⟨length.trans (max_le h.1 le_rfl), rfl, fun p => ?_⟩
    rw [port_followPicks]
    exact pickAvailable_isIn_withPickAvailable _ _
  clear p named s h := by
    rw [picksWf_iff] at h ⊢
    exact ⟨h.1, h.2.1, forall_sets_updPort (P := fun sets => Event.pickAvailable.isIn sets.1 = s.pickRaw)
      h.2.2 (pickAvailable_isIn_clearSet named (h.2.2 p))⟩
  mask p i s _ h := by
    rw [picksWf_iff] at h ⊢
    exact ⟨h.1, h.2.1, forall_sets_updPort (P := fun sets => Event.pickAvailable.isIn sets.1 = s.pickRaw)
      h.2.2 (h.2.2 p)⟩
  held p v s h := by
    rw [picksWf_iff] at h ⊢
    exact ⟨h.1, h.2.1, forall_sets_updPort (P := fun sets => Event.pickAvailable.isIn sets.1 = s.pickRaw)
      h.2.2 (pickAvailable_isIn_withPickAvailable _ _)⟩
  reset := reset_picksWf

/-! ## The reserved positions -/

/-- The reserved positions of a set are 0 (R196). -/
def ReservedClear (set : EventSet) : Prop := set.getLsbD 7 = false ∧ set.getLsbD 15 = false

theorem eventSetsWf_iff {s : State} : EventSetsWf s ↔
    ∀ p, ReservedClear (s.port p).sets.1 ∧ ReservedClear (s.port p).sets.2 := by
  have port (q : PortState) : q.SetsWf ↔ ReservedClear q.sets.1 ∧ ReservedClear q.sets.2 := by
    simp only [PortState.SetsWf, ReservedClear, PortState.sets, and_assoc]
  simp only [← port]
  refine ⟨fun ⟨a, b⟩ p => ?_, fun h => ⟨h .a, h .b⟩⟩
  cases p
  · exact a
  · exact b

theorem reservedClear_withPickAvailable {set : EventSet} (raw : Bool) (h : ReservedClear set) :
    ReservedClear (withPickAvailable raw set) := by
  obtain ⟨seven, fifteen⟩ := withPickAvailable_reserved raw set
  exact ⟨seven.trans h.1, fifteen.trans h.2⟩

theorem reservedClear_and {set : EventSet} (other : EventSet) (h : ReservedClear set) :
    ReservedClear (set &&& other) := by
  simp only [ReservedClear, BitVec.getLsbD_and, h.1, h.2, Bool.false_and, and_self]

theorem reservedClear_or_toSet {set : EventSet} (e : Event) (h : ReservedClear set) :
    ReservedClear (set ||| e.toSet) := by
  obtain ⟨seven, fifteen⟩ := toSet_reserved e
  simp only [ReservedClear, BitVec.getLsbD_or, h.1, h.2, seven, fifteen, Bool.or_self, and_self]

theorem reservedClear_clearSet {set : EventSet} (raw : Bool) (named : EventSet)
    (h : ReservedClear set) : ReservedClear (clearSet raw named set) := by
  unfold clearSet
  split
  · exact reservedClear_or_toSet _ (reservedClear_and _ h)
  · exact reservedClear_and _ h

theorem reservedClear_zero : ReservedClear 0 := ⟨rfl, rfl⟩

/-- How an invariant of the latched sets and masks is kept where one port's sets change. -/
theorem eventSetsWf_updPort {p : PortId} {f : PortState → PortState} {s : State}
    (h : EventSetsWf s) (latched : ReservedClear (f (s.port p)).latched)
    (mask : ReservedClear (f (s.port p)).mask) : EventSetsWf (s.updPort p f) :=
  eventSetsWf_iff.mpr (forall_sets_updPort
    (P := fun sets => ReservedClear sets.1 ∧ ReservedClear sets.2) (eventSetsWf_iff.mp h)
    ⟨latched, mask⟩)

theorem reservedClear_port {s : State} (h : EventSetsWf s) (p : PortId) :
    ReservedClear (s.port p).latched ∧ ReservedClear (s.port p).mask := eventSetsWf_iff.mp h p

theorem eventSetsWf_keptByEvents : KeptByEvents EventSetsWf where
  frame {s t} same h := by
    simp only [eventState, Prod.mk.injEq] at same
    obtain ⟨-, -, a, b⟩ := same
    rw [eventSetsWf_iff] at h ⊢
    intro p
    cases p
    · rw [a]; exact h .a
    · rw [b]; exact h .b
  raise {e s} _ h := eventSetsWf_iff.mpr fun p => by
    obtain ⟨latched, mask⟩ := reservedClear_port h p
    rw [port_raise]
    exact ⟨reservedClear_or_toSet e latched, mask⟩
  picks {s} q _ h := eventSetsWf_iff.mpr fun p => by
    obtain ⟨latched, mask⟩ := reservedClear_port h p
    rw [port_followPicks]
    exact ⟨reservedClear_withPickAvailable _ latched, mask⟩
  clear p named s h := by
    obtain ⟨latched, mask⟩ := reservedClear_port h p
    exact eventSetsWf_updPort h (reservedClear_clearSet _ named latched) mask
  mask p _ _ ok h := eventSetsWf_updPort h (reservedClear_port h p).1 (events_reserved ok)
  held _ _ _ h := eventSetsWf_updPort h (reservedClear_withPickAvailable _ reservedClear_zero)
    reservedClear_zero
  reset := reset_eventSetsWf

/-- Settles O53: the attention outputs are driven at the end of every event, and the two invariants of the
event sets are kept by all that changes them. -/
theorem stepKeepsAttentionAndPickEvents : Obligations.StepKeepsAttentionAndPickEvents :=
  ⟨fun _ _ => step_attentionWf, fun _ _ => picksWf_keptByEvents.keptByParts.step,
    fun _ _ => eventSetsWf_keptByEvents.keptByParts.step⟩

end Sys2Proof.Machine
end

section
/-! Port state, command in progress and data phase agree after every step (R167, R173, R176). -/
namespace Sys2Proof.Machine

variable {p : PortId} {q q' : PortState}

/-- A port that keeps its state, its burst size and the operation of its command, and gains no DREQ. -/
theorem PortState.Wf.of_same_state (h : q.Wf p) (state : q'.state = q.state) (burst : q'.burst = q.burst)
    (cmd : q'.cmd.map Progress.op = q.cmd.map Progress.op) (dreq : q'.dreq = true → q.dreq = true)
    (attn : q'.burstAttn = true → q'.dreq = true) : q'.Wf p := by
  obtain ⟨idle, busy, role, phase, -, size⟩ := h
  have none_iff : q'.cmd = none ↔ q.cmd = none := by
    rw [← Option.map_eq_none_iff (f := Progress.op), cmd, Option.map_eq_none_iff]
  refine ⟨fun h => none_iff.mpr (idle (state ▸ h)), fun h => none_iff.not.mpr (busy (state ▸ h)),
    fun c own => ?_, fun h => state ▸ phase (dreq h), attn, burst ▸ size⟩
  rw [own, Option.map_some, eq_comm, Option.map_eq_some_iff] at cmd
  obtain ⟨d, own', op⟩ := cmd
  exact op ▸ role d own'

/-- A port without a command in progress and without a data phase. -/
theorem portWf_of_idle (cmd : q'.cmd = none)
    (state : q'.state ≠ .dataIn ∧ q'.state ≠ .dataOut) (dreq : q'.dreq = false)
    (attn : q'.burstAttn = false) (size : 1 ≤ q'.burst.toNat ∧ q'.burst.toNat ≤ 32) : q'.Wf p :=
  ⟨fun _ => cmd, fun h => (h.elim state.1 state.2).elim, fun c own => by simp [cmd] at own,
    fun h => by simp [dreq] at h, fun h => by simp [attn] at h, size⟩

/-- A port in a data phase, or BUSY, with a command of its role. -/
theorem portWf_of_command {c : Progress} (cmd : q'.cmd = some c) (role : inRole c.op p = true)
    (state : q'.state = .busy ∨ q'.state = .dataIn ∨ q'.state = .dataOut)
    (dreq : q'.dreq = true → q'.state = .dataIn ∨ q'.state = .dataOut)
    (attn : q'.burstAttn = true → q'.dreq = true)
    (size : 1 ≤ q'.burst.toNat ∧ q'.burst.toNat ≤ 32) : q'.Wf p := by
  refine ⟨fun h => ?_, fun _ => by simp [cmd], fun d own => ?_, dreq, attn, size⟩
  · rcases state with state | state | state <;> simp [state] at h
  · rw [cmd, Option.some.injEq] at own
    exact own ▸ role

theorem PortState.Wf.attn (h : q.Wf p) : q.burstAttn = true → q.dreq = true := by
  obtain ⟨-, -, -, -, attn, -⟩ := h
  exact attn

theorem PortState.Wf.size (h : q.Wf p) : 1 ≤ q.burst.toNat ∧ q.burst.toNat ≤ 32 := by
  obtain ⟨-, -, -, -, -, size⟩ := h
  exact size

/-- DREQ and burst attention belong to a data phase. -/
theorem PortState.Wf.off (h : q.Wf p) (state : q.state ≠ .dataIn ∧ q.state ≠ .dataOut) :
    q.dreq = false ∧ q.burstAttn = false := by
  obtain ⟨-, -, -, phase, attn, -⟩ := h
  have off : q.dreq = false := by
    by_contra on
    exact (phase (Bool.not_eq_false _ ▸ on)).elim state.1 state.2
  refine ⟨off, ?_⟩
  by_contra on
  simp [off] at attn
  exact on attn

/-! ## The port operations -/

theorem portsWf_iff {s : State} : PortsWf s ↔ ∀ p, (s.port p).Wf p :=
  ⟨fun ⟨a, b⟩ p => by cases p; exacts [a, b], fun h => ⟨h .a, h .b⟩⟩

theorem PortsWf.port {s : State} (h : PortsWf s) (p : PortId) : (s.port p).Wf p := portsWf_iff.mp h p

theorem PortsWf.size {s : State} (h : PortsWf s) (p : PortId) :
    1 ≤ (s.port p).burst.toNat ∧ (s.port p).burst.toNat ≤ 32 := (h.port p).size

theorem PortsWf.role {s : State} (h : PortsWf s) {p : PortId} {c : Progress}
    (own : (s.port p).cmd = some c) : inRole c.op p = true := (h.port p).2.2.1 c own

/-- A port's change that its well-formedness does not read. -/
theorem PortsWf.unread {s : State} (h : PortsWf s) (p : PortId) {q : PortState}
    (state : q.state = (s.port p).state := by rfl) (burst : q.burst = (s.port p).burst := by rfl)
    (cmd : q.cmd = (s.port p).cmd := by rfl) (dreq : q.dreq = (s.port p).dreq := by rfl)
    (attn : q.burstAttn = (s.port p).burstAttn := by rfl) : q.Wf p := by
  obtain ⟨-, -, -, -, phase, -⟩ := h.port p
  exact (h.port p).of_same_state state burst (by rw [cmd]) (by rw [dreq]; exact id)
    (by rw [dreq, attn]; exact phase)

theorem portsWf_of_ports_eq {s t : State} (h : PortsWf s) (same : t.ports = s.ports := by rfl) :
    PortsWf t := by
  rw [portsWf_iff] at h ⊢
  intro p
  rw [State.port, same]
  exact h p

theorem portsWf_updPort {p : PortId} {f : PortState → PortState} {s : State} (h : PortsWf s)
    (own : (f (s.port p)).Wf p) : PortsWf (s.updPort p f) := portsWf_iff.mpr fun r => by
  by_cases same : r = p
  · subst same
    rwa [port_updPort_same]
  · rw [port_updPort_other _ _ _ _ same]
    exact h.port r

theorem portsWf_latched {s t : State} (h : PortsWf s)
    (same : ∀ p, t.port p = { s.port p with latched := (t.port p).latched }) : PortsWf t :=
  portsWf_iff.mpr fun p => by
    rw [same p]
    exact h.unread p

theorem complete_portsWf (p : PortId) (o : ParamBlock) (f : FaultCode) {s : State} (h : PortsWf s) :
    PortsWf (complete p o f s) :=
  portsWf_updPort h (portWf_of_idle rfl ⟨PortMode.noConfusion, PortMode.noConfusion⟩ rfl rfl (h.size p))

theorem portsWf_keptByCompletion (p : PortId) : KeptByCompletion p PortsWf where
  frame h ports _ _ _ := portsWf_of_ports_eq h ports
  raise _ h := portsWf_latched h fun p => by simp
  picks _ _ h := portsWf_latched h fun p => by rw [port_followPicks]; rfl
  collide h := portsWf_updPort h (h.unread p)
  accept h := portsWf_updPort h (h.unread p)
  complete o f h := complete_portsWf p o f h

theorem updCmd_portsWf (p : PortId) {f : Progress → Progress} {s : State} (h : PortsWf s)
    (op : ∀ c, (f c).op = c.op := by exact fun _ => rfl) : PortsWf (updCmd p f s) :=
  portsWf_updPort h ((h.port p).of_same_state rfl rfl
    (by rw [Option.map_map]; congr 1; exact funext op) id (h.port p).attn)

theorem countRecord_portsWf (p : PortId) {s : State} (h : PortsWf s) : PortsWf (countRecord p s) :=
  updCmd_portsWf p h

@[simp] theorem port_updCmd_same (p : PortId) (f : Progress → Progress) (s : State) :
    (updCmd p f s).port p = { s.port p with cmd := (s.port p).cmd.map f } := port_updPort_same ..

@[simp] theorem state_updCmd (p r : PortId) (f : Progress → Progress) (s : State) :
    ((updCmd p f s).port r).state = (s.port r).state := by
  by_cases same : r = p
  · subst same
    rw [updCmd, port_updPort_same]
  · rw [updCmd, port_updPort_other _ _ _ _ same]

@[simp] theorem state_countRecord (p r : PortId) (s : State) :
    ((countRecord p s).port r).state = (s.port r).state := state_updCmd ..

/-- The turn to a record belongs to a data phase. -/
theorem openRecord_portsWf {p : PortId} {s : State} (h : PortsWf s)
    (phase : (s.port p).state = .dataIn ∨ (s.port p).state = .dataOut) : PortsWf (openRecord p s) := by
  cases own : (s.port p).cmd with
  | none =>
    unfold openRecord
    rwa [own]
  | some c =>
    rw [openRecord_eq own]
    exact portsWf_updPort h (portWf_of_command own (h.role own) (.inr phase) (fun _ => phase)
      (fun on => ((Bool.and_eq_true _ _).mp on).1) (h.size p))

/-- A command of the port's role is taken up in a data phase without DREQ yet. -/
theorem startPhase_portsWf {p : PortId} {op : Command} {st : PortMode} (i : ParamBlock) (n : Nat)
    (w : List Word) {s : State} (h : PortsWf s) (ready : (s.port p).state = .ready)
    (role : inRole op p = true) (phase : st = .dataIn ∨ st = .dataOut) :
    PortsWf (openRecord p (s.updPort p fun q =>
      { q with state := st, cmd := some (.start op i n w) })) := by
  obtain ⟨-, attn⟩ := (h.port p).off (by simp [ready])
  refine openRecord_portsWf (portsWf_updPort h ?_) (by rwa [port_updPort_same])
  exact portWf_of_command (c := .start op i n w) rfl role (.inr phase) (fun _ => phase)
    (by simp [attn]) (h.size p)

theorem startDataIn_portsWf {p : PortId} {op : Command} (i : ParamBlock) (n : Nat) {s : State}
    (h : PortsWf s) (ready : (s.port p).state = .ready) (role : inRole op p = true) :
    PortsWf (startDataIn p op i n s) := startPhase_portsWf i n [] h ready role (.inl rfl)

theorem startDataOut_portsWf {p : PortId} {op : Command} (i : ParamBlock) (n : Nat) (w : List Word)
    {s : State} (h : PortsWf s) (ready : (s.port p).state = .ready) (role : inRole op p = true) :
    PortsWf (startDataOut p op i n w s) := startPhase_portsWf i n w h ready role (.inr rfl)

/-! ## Table commands -/

theorem isTableCommand_role {op : Command} {p : PortId} (table : isTableCommand op = true)
    (role : inRole op p = true) : p = .a := by
  cases op <;> cases table <;> simpa [inRole] using role

theorem finishTable_portsWf {s : State} (h : PortsWf s) : PortsWf (finishTable s) := by
  unfold finishTable
  split
  · exact h
  · split
    · exact complete_portsWf .a _ _ h
    · exact h

theorem endTablePhase_portsWf (f : FaultCode) {s : State} (h : PortsWf s) :
    PortsWf (endTablePhase f s) := by
  refine finishTable_portsWf (portsWf_updPort h ?_)
  refine ⟨fun state => by simp at state, fun state => by simp at state, fun c own => ?_,
    fun on => Bool.noConfusion on, fun on => Bool.noConfusion on, h.size .a⟩
  obtain ⟨d, before, rfl⟩ := Option.map_eq_some_iff.mp own
  exact h.role (c := d) before

theorem recordStands_portsWf {s : State} (h : PortsWf s) (phase : (s.port .a).state = .dataIn) :
    PortsWf (recordStands s) := by
  have counted := countRecord_portsWf .a h
  unfold recordStands
  dsimp only
  split
  · exact counted
  · split
    · exact endTablePhase_portsWf _ counted
    · exact openRecord_portsWf counted (by simp [phase])

theorem takeEntry_portsWf (w : List Word) {s : State} (h : PortsWf s)
    (phase : (s.port .a).state = .dataIn) : PortsWf (takeEntry w s) := by
  unfold takeEntry
  split
  · exact endTablePhase_portsWf _ h
  · split
    · exact recordStands_portsWf (portsWf_of_ports_eq h) phase
    · exact endTablePhase_portsWf _ h

theorem takeRemoval_portsWf (w : List Word) {s : State} (h : PortsWf s)
    (phase : (s.port .a).state = .dataIn) : PortsWf (takeRemoval w s) := by
  unfold takeRemoval
  split
  · exact endTablePhase_portsWf _ h
  · exact recordStands_portsWf (portsWf_of_ports_eq h) phase

theorem takeWindow_portsWf (i : ParamBlock) (w : List Word) {s : State} (h : PortsWf s)
    (phase : (s.port .a).state = .dataIn) : PortsWf (takeWindow i w s) := by
  unfold takeWindow
  split
  · exact recordStands_portsWf (portsWf_of_ports_eq h) phase
  · exact endTablePhase_portsWf _ h

theorem acceptClear_portsWf {p : PortId} (i : ParamBlock) {s : State} (h : PortsWf s)
    (ready : (s.port p).state = .ready) (role : inRole .clearTable p = true) :
    PortsWf (acceptClear p i s) := by
  have busy : PortsWf (s.updPort p fun q =>
      { q with state := .busy, cmd := some (.start .clearTable i 0 []) }) := by
    obtain ⟨off, attn⟩ := (h.port p).off (by simp [ready])
    exact portsWf_updPort h (portWf_of_command rfl role (.inl rfl) (by simp [off]) (by simp [attn])
      (h.size p))
  unfold acceptClear
  dsimp only
  split
  · exact portsWf_of_ports_eq busy
  · exact updCmd_portsWf p busy

theorem startBatch_portsWf {s : State} (h : PortsWf s) : PortsWf (startBatch s) := by
  have joined {t : State} (h : PortsWf t) : PortsWf (joinWaitingClear t) := by
    unfold joinWaitingClear
    split
    · exact h
    · split
      · exact updCmd_portsWf .a (portsWf_of_ports_eq h)
      · exact h
  unfold startBatch
  split
  · unfold openWithheld
    dsimp only
    split
    · next withheld =>
      have phase := eq_of_beq ((Bool.and_eq_true _ _).mp withheld).1
      exact openRecord_portsWf (joined (portsWf_of_ports_eq h)) (.inl phase)
    · exact joined (portsWf_of_ports_eq h)
  · exact h

theorem completeBatch_portsWf {s : State} (h : PortsWf s) : PortsWf (completeBatch s) := by
  have k := (portsWf_keptByCompletion .a).toKeptByRaises
  have finished (b : List EditItem) {t : State} (h : PortsWf t) :
      PortsWf (finishTable (passTurn (flagBatch .c1 b (flagBatch .c0 b t)))) :=
    finishTable_portsWf (portsWf_of_ports_eq (k.flagBatch .c1 b (k.flagBatch .c0 b h)))
  have credited (n : TableCounts) (b : BatchWork) : PortsWf (credit n (storeBatch b s)) :=
    updCmd_portsWf .a (portsWf_of_ports_eq h)
  exact finished _ (k.dropHit .c1 (k.dropHit .c0 (credited _ _)))

/-! ## The data phases -/

/-- The current record moves by a word, without DREQ where it is whole. -/
theorem moved_portsWf {p : PortId} {s : State} {q' : PortState} (h : PortsWf s)
    (state : q'.state = (s.port p).state) (burst : q'.burst = (s.port p).burst)
    (cmd : q'.cmd.map Progress.op = (s.port p).cmd.map Progress.op)
    (dreq : q'.dreq = true → (s.port p).dreq = true) (attn : q'.burstAttn = false) :
    PortsWf (s.setPort p q') :=
  portsWf_updPort (f := fun _ => q') h
    ((h.port p).of_same_state state burst cmd dreq fun on => by simp [attn] at on)

theorem takeRecord_portsWf {p : PortId} {c : Progress} (w : List Word) {s : State} (h : PortsWf s)
    (role : inRole c.op p = true) (phase : (s.port p).state = .dataIn) :
    PortsWf (takeRecord p c w s) := by
  have k := portsWf_keptByCompletion p
  have ofTable (table : isTableCommand c.op = true) : (s.port .a).state = .dataIn :=
    isTableCommand_role table role ▸ phase
  unfold takeRecord
  split
  case h_1 op => exact takeEntry_portsWf w h (ofTable (by rw [op]; rfl))
  case h_2 op => exact takeRemoval_portsWf w h (ofTable (by rw [op]; rfl))
  case h_3 op => exact takeWindow_portsWf _ w h (ofTable (by rw [op]; rfl))
  case h_4 => exact k.takeView w h
  case h_5 => exact k.takeGrid w h
  case h_6 => exact k.takeSettings _ w h
  all_goals exact h

theorem moveWordIn_portsWf {p : PortId} (w : Word) {s : State} (h : PortsWf s)
    (phase : (s.port p).state = .dataIn) : PortsWf (moveWordIn p w s) := by
  cases own : (s.port p).cmd with
  | none =>
    unfold moveWordIn
    rwa [own]
  | some c =>
    rcases Nat.lt_or_ge (c.words.length + 1) (recordWords c.op) with within | last
    · rw [moveWordIn_within own within]
      exact moved_portsWf h rfl rfl (by rw [own]; rfl) id rfl
    · rw [moveWordIn_last own last]
      exact takeRecord_portsWf _ (moved_portsWf h rfl rfl (by rw [own]; rfl)
        (fun on => Bool.noConfusion on) rfl) (h.role own) (by rwa [port_setPort_same])

theorem present_portsWf {p : PortId} (w : List Word) {s : State} (h : PortsWf s)
    (phase : (s.port p).state = .dataOut) : PortsWf (present p w s) :=
  openRecord_portsWf (updCmd_portsWf p h) (.inr (by simp [phase]))

theorem pickRead_portsWf {p : PortId} {s : State} (h : PortsWf s)
    (phase : (s.port p).state = .dataOut) : PortsWf (pickRead p s) := by
  have removed := (portsWf_keptByCompletion p).removePick (countRecord_portsWf p h)
  unfold pickRead
  dsimp only
  split
  · exact removed
  · split
    · exact complete_portsWf p _ _ removed
    · refine present_portsWf _ removed ?_
      rw [removePick, port_followPicks]
      exact (state_countRecord p p s).trans phase

theorem frameRecordRead_portsWf {p : PortId} {s : State} (h : PortsWf s)
    (phase : (s.port p).state = .dataOut) : PortsWf (frameRecordRead p s) := by
  have counted := countRecord_portsWf p h
  unfold frameRecordRead
  dsimp only
  split
  · exact counted
  · split
    · exact complete_portsWf p _ _ ((portsWf_keptByCompletion p).releasePin counted)
    · split
      · exact present_portsWf _ counted (by simp [phase])
      · exact counted

theorem recordRead_portsWf {p : PortId} (op : Command) {s : State} (h : PortsWf s)
    (phase : (s.port p).state = .dataOut) : PortsWf (recordRead p op s) := by
  unfold recordRead
  split
  · exact pickRead_portsWf h phase
  · exact frameRecordRead_portsWf h phase
  case h_3 | h_4 => exact complete_portsWf p _ _ h
  all_goals exact h

theorem moveWordOut_portsWf {p : PortId} {s : State} (h : PortsWf s)
    (phase : (s.port p).state = .dataOut) : PortsWf (moveWordOut p s) := by
  unfold moveWordOut
  split
  · exact h
  · next c own =>
    have moved := updCmd_portsWf p (f := fun d => { d with words := c.words.tail })
      (moved_portsWf (q' := { s.port p with burstAttn := false, readData := c.words.headD 0 })
        h rfl rfl rfl id rfl)
    dsimp only
    split
    · refine recordRead_portsWf _ ?_ (by simp [phase])
      exact moved_portsWf moved rfl rfl rfl (fun on => Bool.noConfusion on) (by simp)
    · exact moved

/-! ## Every row -/

theorem timeOut_portsWf (p : PortId) {s : State} (h : PortsWf s) : PortsWf (timeOut p s) := by
  unfold timeOut
  split
  · exact h
  · split
    · exact endTablePhase_portsWf _ h
    · exact complete_portsWf p _ _ ((portsWf_keptByCompletion p).releaseFor _ h)

theorem writeControl_portsWf (p : PortId) (v : Byte) {s : State} (h : PortsWf s) :
    PortsWf (writeControl p v s) := by
  have kept (enable : Bool) : PortsWf (s.updPort p fun q =>
      { q with attnEnable := enable, mode := modeOf v }) :=
    portsWf_updPort h (h.unread p)
  have abandoned : PortsWf (abandon p s) := portsWf_of_ports_eq h (by simp)
  unfold writeControl
  dsimp only
  split
  · exact (portsWf_keptByCompletion p).collide h
  · split
    · split
      · exact kept _
      · exact portsWf_updPort abandoned
          (portWf_of_idle rfl ⟨PortMode.noConfusion, PortMode.noConfusion⟩ rfl rfl (by decide : 1 ≤ 1 ∧ 1 ≤ 32))
    · split
      · next held =>
        obtain ⟨off, attn⟩ := (h.port p).off (by simp [held])
        exact portsWf_updPort h (portWf_of_idle ((h.port p).1 (.inr held))
          ⟨PortMode.noConfusion, PortMode.noConfusion⟩ off attn (h.size p))
      · exact kept _

theorem leaveStartUp_wf {p : PortId} {q : PortState} (h : q.Wf p) : (leaveStartUp q).Wf p := by
  unfold leaveStartUp
  split
  · next startUp =>
    obtain ⟨off, attn⟩ := h.off (by simp [startUp.1])
    exact portWf_of_idle startUp.2 ⟨PortMode.noConfusion, PortMode.noConfusion⟩ off attn h.size
  · exact h

theorem setBurst_size {i : ParamBlock} (ok : paramsOk .setBurst i = true) :
    1 ≤ (BitVec.ofNat 6 i.p0.toNat).toNat ∧ (BitVec.ofNat 6 i.p0.toNat).toNat ≤ 32 := by
  have own : ownChecksOk .setBurst i = true := ((Bool.and_eq_true _ _).mp ok).2
  obtain ⟨low, high⟩ : 1 ≤ i.p0.toNat ∧ i.p0.toNat ≤ 32 := by simpa [ownChecksOk] using own
  rw [BitVec.toNat_ofNat, Nat.mod_eq_of_lt (by omega)]
  exact ⟨low, high⟩

theorem bodyOf_portsWf (i : Instr) {s : State} (h : PortsWf s) : PortsWf (bodyOf i s) := by
  by_cases raises : raisesOnly i = true
  · exact (portsWf_keptByCompletion .a).toKeptByRaises.bodyOf raises h
  by_cases completes : ∃ p, completingPort i = some p
  · obtain ⟨p, row⟩ := completes
    exact (portsWf_keptByCompletion p).bodyOf row h
  have k := portsWf_keptByCompletion
  have accepted {p : PortId} (ready : (s.port p).state = .ready) :
      ((accept p s).port p).state = .ready := by simpa using ready
  cases i
  all_goals
    first
      | exact absurd rfl raises
      | exact absurd ⟨_, rfl⟩ completes
      | dsimp only [Machine.bodyOf]
  case readCursor p =>
    refine (k p).issue h fun ready role _ h => withChannel_keeps h fun c => ?_
    exact startDataOut_portsWf _ _ _ h (accepted ready) role
  case clearEvents p =>
    refine (k p).issue h fun _ _ _ h => complete_portsWf p _ _ ?_
    exact portsWf_updPort h (h.unread p)
  case setEventMask p =>
    refine (k p).issue h fun _ _ _ h => complete_portsWf p _ _ ?_
    exact portsWf_updPort h (h.unread p)
  case setBurst p =>
    refine (k p).issue h fun _ _ ok h => complete_portsWf p _ _ (portsWf_updPort h ?_)
    obtain ⟨idle, busy, role, phase, attn, -⟩ := h.port p
    exact ⟨idle, busy, role, phase, attn, setBurst_size ok⟩
  case loadCandidates p | removeCandidates p | setWindow p | setGrid p | setSnap p | setView p =>
    exact (k p).issue h fun ready role _ h => startDataIn_portsWf _ _ h (accepted ready) role
  case identify p =>
    exact (k p).issue h fun ready role _ h => startDataOut_portsWf _ _ _ h (accepted ready) role
  case clearTable p =>
    exact (k p).issue h fun ready role _ h => acceptClear_portsWf _ h (accepted ready) role
  case readPicks p =>
    refine (k p).issue h fun ready role _ h => ?_
    unfold acceptReadPicks
    split
    · exact complete_portsWf p _ _ h
    · exact startDataOut_portsWf _ _ _ h (accepted ready) role
  case fetchOverlay p =>
    refine (k p).issue h fun ready role _ h => ?_
    unfold acceptFetch
    split
    · exact updCmd_portsWf p (startDataOut_portsWf _ _ _ (portsWf_of_ports_eq h) (accepted ready) role)
    · exact updCmd_portsWf p (startDataOut_portsWf _ _ _ h (accepted ready) role)
  case dataWrite p w =>
    split
    · next phase => exact moveWordIn_portsWf w h phase.1
    · exact (k p).collide h
  case dataRead p =>
    split
    · next phase => exact moveWordOut_portsWf h phase.1
    · have collided := (k p).collide h
      exact portsWf_updPort collided
        (collided.unread p)
  case statusRead p => exact portsWf_updPort h (h.unread p)
  case parameterWrite p pos v =>
    split
    · exact portsWf_updPort h (h.unread p)
    · exact (k p).collide h
  case portSoftReset p v | softResetRelease p v | commandAttentionEnable p v
      | attentionMode p v =>
    exact writeControl_portsWf p v h
  case endOfInitialization =>
    split
    · exact ⟨leaveStartUp_wf h.1, leaveStartUp_wf h.2⟩
    · exact h
  case dataPhaseTimeout p =>
    split
    · exact timeOut_portsWf p h
    · exact h
  case pulseEnd p =>
    refine portsWf_updPort h ?_
    unfold endPulse
    split
    · exact h.unread p
    · exact h.port p
  case batchCompletion =>
    split
    · exact completeBatch_portsWf h
    · exact h
  case deviceReset | batchStart | searchStart => exact h

theorem portsWf_keptByParts : KeptByParts PortsWf where
  queue _ _ h := portsWf_of_ports_eq h
  attention _ _ h := portsWf_iff.mpr fun p => by
    cases p
    · exact h.unread .a
    · exact h.unread .b
  search _ _ h := portsWf_of_ports_eq h (by simp)
  batch _ := startBatch_portsWf
  reset _ := portsWf_of_ports_eq reset_portsWf
  body i _ _ := bodyOf_portsWf i

end Sys2Proof.Machine
end

section
/-! The turns of the table are kept by every step (R21 to R23, R39). -/
namespace Sys2Proof.Machine

/-! ## A search and the access state -/

/-- A search agrees with the access state: none in flight or about to be while a batch is applied, none
waiting ungranted in OPEN. -/
def SearchFits (a : Access) (x : Search) : Prop :=
  (a = .applying → inFlightOf x = 0 ∧ granted x = false) ∧ (a = .opened → waitsUngranted x = false)

theorem searchFits_requested (a : Access) (b : SearchBasis) :
    SearchFits a (.waiting b (a == .opened)) := by
  constructor <;> rintro rfl <;> simp [inFlightOf, granted, waitsUngranted]

theorem searchFits_quiet (a : Access) : SearchFits a .quiet := by simp [SearchFits, inFlightOf, granted,
  waitsUngranted]

@[simp] theorem inFlightOf_releaseSearch (x : Search) : inFlightOf (releaseSearch x) = inFlightOf x := by
  cases x <;> rfl

@[simp] theorem waitsUngranted_releaseSearch (x : Search) : waitsUngranted (releaseSearch x) = false := by
  cases x <;> rfl

@[simp] theorem inFlightOf_resetSearch (x : Search) : inFlightOf (resetSearch x) = inFlightOf x := by
  cases x <;> rfl

@[simp] theorem inFlightOf_markView (x : Search) : inFlightOf (markView x) = inFlightOf x := by
  unfold markView
  split <;> rfl

theorem searchFits_resetSearch {a : Access} {x : Search} (h : SearchFits a x) :
    SearchFits a (resetSearch x) := by
  cases x
  · exact searchFits_quiet a
  · exact searchFits_quiet a
  · exact h

theorem searchFits_markView {a : Access} {x : Search} (h : SearchFits a x) :
    SearchFits a (markView x) := by
  unfold markView
  split <;> exact h

/-! ## The turns of the table -/

/-- The turns of the table, `startUp` being what stands in start-up of Port A. -/
structure TableTurnsWf (startUp : Prop) (s : State) : Prop where
  inFlight : s.stc.inFlight = inFlightOf (s.chan .c0).search + inFlightOf (s.chan .c1).search
  fits : ∀ c, SearchFits s.stc.access (s.chan c).search
  batch : s.stc.access ≠ .applying → s.stc.batch = []
  opened : s.stc.access = .opened → s.stc.queue = []
  startUp : s.stc.access = .initializing → s.stc.queue = [] ∧ startUp

theorem turnsWf_iff {s : State} : TurnsWf s ↔ TableTurnsWf (inStartUp (s.port .a) = true) s := by
  constructor
  · rintro ⟨inFlight, applying, batch, opened, startUp⟩
    refine ⟨inFlight, fun c => ⟨fun h => ?_, fun h => ?_⟩, batch, fun h => (opened h).1, startUp⟩
    · obtain ⟨none, g0, g1⟩ := applying h
      cases c
      · exact ⟨by omega, g0⟩
      · exact ⟨by omega, g1⟩
    · obtain ⟨-, w0, w1⟩ := opened h
      cases c
      · exact w0
      · exact w1
  · rintro ⟨inFlight, fits, batch, opened, startUp⟩
    refine ⟨inFlight, fun h => ?_, batch, fun h => ⟨opened h, (fits .c0).2 h, (fits .c1).2 h⟩, startUp⟩
    obtain ⟨none0, g0⟩ := (fits .c0).1 h
    obtain ⟨none1, g1⟩ := (fits .c1).1 h
    exact ⟨by omega, g0, g1⟩

namespace TableTurnsWf

variable {up : Prop} {s t : State}

theorem mono {up' : Prop} (h : TableTurnsWf up s) (imp : up → up') : TableTurnsWf up' s :=
  ⟨h.inFlight, h.fits, h.batch, h.opened, fun init => ⟨(h.startUp init).1, imp (h.startUp init).2⟩⟩

/-- A change that leaves the count, the access state and the searches, and queues nothing. -/
theorem frame (h : TableTurnsWf up s) (inFlight : t.stc.inFlight = s.stc.inFlight)
    (access : t.stc.access = s.stc.access) (batch : s.stc.batch = [] → t.stc.batch = [])
    (queue : s.stc.queue = [] → t.stc.queue = []) (search : ∀ d, (t.chan d).search = (s.chan d).search) :
    TableTurnsWf up t where
  inFlight := by rw [inFlight, search, search]; exact h.inFlight
  fits d := by rw [access, search]; exact h.fits d
  batch other := batch (h.batch (access ▸ other))
  opened o := queue (h.opened (access ▸ o))
  startUp init := by
    obtain ⟨empty, startUp⟩ := h.startUp (access ▸ init)
    exact ⟨queue empty, startUp⟩

/-- A change of neither the table controller nor the searches. -/
theorem kept (h : TableTurnsWf up s) (stc : t.stc = s.stc)
    (search : ∀ d, (t.chan d).search = (s.chan d).search) : TableTurnsWf up t :=
  h.frame (by rw [stc]) (by rw [stc]) (by rw [stc]; exact id) (by rw [stc]; exact id) search

/-- A change of neither the table controller nor the channels. -/
theorem of_frame (h : TableTurnsWf up s) (same : t.stc = s.stc ∧ t.chans = s.chans) :
    TableTurnsWf up t :=
  h.kept same.1 fun d => by rw [State.chan, same.2]; rfl

/-- A change of one channel's search that leaves what is in flight. -/
theorem search (c : Chan) (h : TableTurnsWf up s) (stc : t.stc = s.stc)
    (other : ∀ d, d ≠ c → (t.chan d).search = (s.chan d).search)
    (same : inFlightOf (t.chan c).search = inFlightOf (s.chan c).search)
    (fits : SearchFits s.stc.access (t.chan c).search) : TableTurnsWf up t where
  inFlight := by
    rw [stc, h.inFlight]
    cases c
    · rw [same, other .c1 Chan.noConfusion]
    · rw [same, other .c0 Chan.noConfusion]
  fits d := by
    rw [stc]
    by_cases own : d = c
    · exact own ▸ fits
    · rw [other d own]
      exact h.fits d
  batch := by rw [stc]; exact h.batch
  opened := by rw [stc]; exact h.opened
  startUp := by rw [stc]; exact h.startUp

theorem updChan (c : Chan) {f : Channel → Channel} (h : TableTurnsWf up s)
    (unread : ∀ ch, (f ch).search = ch.search := by exact fun _ => rfl) :
    TableTurnsWf up (s.updChan c f) :=
  h.kept rfl fun d => updChan_reads Channel.search s unread d

theorem setChanState (c : Chan) (st : ChanState) (h : TableTurnsWf up s) :
    TableTurnsWf up (setChanState c st s) :=
  (h.updChan c (f := fun ch => { ch with state := st })).kept (by simp [Machine.setChanState])
    fun d => by simp [Machine.setChanState]

theorem setFlag (c : Chan) (h : TableTurnsWf up s) : TableTurnsWf up (setFlag c s) := h.updChan c

/-- A unit with no search in flight requests the table. -/
theorem beginSearch (c : Chan) (b : SearchBasis) (h : TableTurnsWf up s)
    (idle : inFlightOf (s.chan c).search = 0) : TableTurnsWf up (beginSearch c b s) :=
  h.search c rfl (fun d other => by rw [beginSearch_chan_other b s other])
    (by rw [beginSearch_chan_same, idle]; rfl)
    (by rw [beginSearch_chan_same]; exact searchFits_requested _ b)

theorem figure {c : Chan} (h : TableTurnsWf up s) (stc : t.stc = s.stc) (only : FigureOnly c s t) :
    TableTurnsWf up t :=
  h.kept stc fun d => show (t.chan d).besideFigure.search = (s.chan d).besideFigure.search by
    rw [only.beside_both d]

/-! ### Searches -/

/-- A search in flight leaves the table and its unit is QUIET or waits again. -/
theorem leave (c : Chan) {f : Channel → Channel} (h : TableTurnsWf up s)
    (searching : inFlightOf (s.chan c).search = 1) (idle : inFlightOf (f (s.chan c)).search = 0)
    (fits : SearchFits s.stc.access (f (s.chan c)).search) :
    TableTurnsWf up ((leaveTable s).updChan c f) where
  inFlight := by
    have count : s.stc.inFlight - 1 = inFlightOf (s.chan (otherChan c)).search := by
      have := h.inFlight
      cases c
      · exact by rw [this, searching]; exact Nat.add_sub_cancel_left ..
      · exact by rw [this, searching]; rfl
    cases c
    · exact count.trans (by rw [chan_updChan_same, chan_updChan_other _ _ _ _ Chan.noConfusion,
        leaveTable_chan, leaveTable_chan, idle, Nat.zero_add]; rfl)
    · exact count.trans (by rw [chan_updChan_same, chan_updChan_other _ _ _ _ Chan.noConfusion,
        leaveTable_chan, leaveTable_chan, idle, Nat.add_zero]; rfl)
  fits d := by
    by_cases own : d = c
    · subst own
      rw [chan_updChan_same]
      exact fits
    · rw [chan_updChan_other _ _ _ _ own]
      exact h.fits d
  batch := h.batch
  opened := h.opened
  startUp := h.startUp

theorem completeSearch (c : Chan) (h : TableTurnsWf up s) : TableTurnsWf up (completeSearch c s) := by
  unfold Machine.completeSearch
  split
  case h_1 b i searching =>
    have left : TableTurnsWf up (writeResult c b i (resolve c i s.stc) (leaveTable s)) :=
      (h.leave c (f := fun ch => { ch with search := .quiet }) (by rw [searching]; rfl) rfl
        (searchFits_quiet _)).kept (by simp) fun d => by
          by_cases own : d = c
          · subst own
            simp
          · simp [own]
    exact left.figure (by simp) (figureOnly_handlePresses c b.presses _)
  case h_2 searching => exact h.leave c (by rw [searching]; rfl) rfl (searchFits_quiet _)
  case h_3 b _ searching => exact h.leave c (by rw [searching]; rfl) rfl (searchFits_requested _ b)
  all_goals exact h

theorem takeReport (c : Chan) (h : TableTurnsWf up s) : TableTurnsWf up (takeReport c s) := by
  unfold Machine.takeReport
  split
  case h_1 r rest quiet _ =>
    have taken : TableTurnsWf up (s.updChan c fun ch => { ch with queue := rest }) := h.updChan c
    have tracking (pt : TabletPoint) (bits : BitVec 3) (n : Nat) (b : SearchBasis) : TableTurnsWf up
        (Machine.beginSearch c b (Machine.setChanState c .tracking
          ((s.updChan c fun ch => { ch with queue := rest }).updChan c fun ch =>
            { ch with buttons := bits, raw := pt, timer := .running n }))) :=
      ((taken.updChan c).setChanState c .tracking).beginSearch c b (by simp [quiet]; rfl)
    unfold actOnReport
    split
    case h_3 =>
      unfold takeProxOut
      dsimp only
      split
      case h_1 | h_2 => exact ((taken.updChan c).updChan c).setChanState c _
      all_goals exact taken.updChan c
    all_goals
      split
      · exact tracking _ _ _ _
      · exact taken
  all_goals exact h

theorem expireRest (c : Chan) (h : TableTurnsWf up s) : TableTurnsWf up (expireRest c s) := by
  unfold Machine.expireRest
  split
  · exact (h.updChan c).setChanState c _
  · exact h

theorem acceptResetChannel (p : PortId) (c : Chan) (h : TableTurnsWf up s) :
    TableTurnsWf up (acceptResetChannel p c s) := by
  have searches : ∀ d, ((Machine.acceptResetChannel p c s).chan d) =
      (s.updChan c resetChannelState).chan d := by simp [Machine.acceptResetChannel]
  refine h.search c (by simp) (fun d other => ?_) ?_ ?_
  · rw [searches, chan_updChan_other _ _ _ _ other]
  · rw [searches, chan_updChan_same]
    exact inFlightOf_resetSearch _
  · rw [searches, chan_updChan_same]
    exact searchFits_resetSearch (h.fits c)

theorem acceptView (v : Coord × Coord × Word × BitVec 4) (h : TableTurnsWf up s) :
    TableTurnsWf up (acceptView v s) where
  inFlight := by simpa using h.inFlight
  fits d := by simpa using searchFits_markView (h.fits d)
  batch := by simpa using h.batch
  opened := by simpa using h.opened
  startUp := by simpa using h.startUp

/-! ### The edit queue and its batches -/

/-- An item joins the queue after start-up. -/
theorem joinItem (k : EditKind) (h : TableTurnsWf up s) (started : s.stc.access ≠ .initializing) :
    TableTurnsWf up (joinItem k s) := by
  by_cases opened : s.stc.access = .opened
  · have draining : (Machine.joinItem k s).stc.access = .draining := if_pos opened
    have empty := h.batch (by simp [opened])
    exact ⟨h.inFlight, fun d => by simp [SearchFits, draining], fun _ => empty,
      fun o => by simp [draining] at o, fun init => by simp [draining] at init⟩
  · have same : (Machine.joinItem k s).stc.access = s.stc.access := if_neg opened
    exact ⟨h.inFlight, fun d => by rw [same]; exact h.fits d, fun other => h.batch (same ▸ other),
      fun o => absurd (same ▸ o) opened, fun init => absurd (same ▸ init) started⟩

theorem endTablePhase (f : FaultCode) (h : TableTurnsWf up s) : TableTurnsWf up (endTablePhase f s) :=
  h.of_frame (by simp)

theorem recordStands (h : TableTurnsWf up s) : TableTurnsWf up (recordStands s) :=
  h.of_frame (by simp)

theorem takeRecord {p : PortId} {c : Progress} (w : List Word) (h : TableTurnsWf up s)
    (started : isTableCommand c.op = true → s.stc.access ≠ .initializing) :
    TableTurnsWf up (takeRecord p c w s) := by
  unfold Machine.takeRecord
  split
  case h_1 op =>
    unfold takeEntry
    split
    · exact h.endTablePhase _
    · split
      · have reserved : TableTurnsWf up (reserveSlot s) := ⟨h.inFlight, h.fits, h.batch, h.opened, h.startUp⟩
        exact (reserved.joinItem _ (started (by rw [op]; rfl))).recordStands
      · exact h.endTablePhase _
  case h_2 op =>
    unfold takeRemoval
    split
    · exact h.endTablePhase _
    · exact (h.joinItem _ (started (by rw [op]; rfl))).recordStands
  case h_3 op =>
    unfold takeWindow
    split
    · exact (h.joinItem _ (started (by rw [op]; rfl))).recordStands
    · exact h.endTablePhase _
  case h_4 =>
    unfold takeView
    split
    · exact h.of_frame ⟨rfl, rfl⟩
    · exact (h.acceptView _).of_frame ⟨rfl, rfl⟩
  case h_5 =>
    unfold takeGrid
    split
    · exact h.of_frame ⟨rfl, rfl⟩
    · exact h.kept rfl fun d => by simp
  case h_6 =>
    unfold takeSettings
    split
    · next d _ _ =>
      refine ((h.updChan d).setFlag d).of_frame ⟨rfl, rfl⟩
    · exact h.of_frame ⟨rfl, rfl⟩
  all_goals exact h

theorem moveWordIn {p : PortId} (w : Word) (h : TableTurnsWf up s)
    (started : ∀ c, (s.port p).cmd = some c → isTableCommand c.op = true →
      s.stc.access ≠ .initializing) : TableTurnsWf up (moveWordIn p w s) := by
  cases own : (s.port p).cmd with
  | none =>
    unfold Machine.moveWordIn
    rwa [own]
  | some c =>
    rcases Nat.lt_or_ge (c.words.length + 1) (recordWords c.op) with within | last
    · rw [moveWordIn_within own within]
      exact h.of_frame ⟨rfl, rfl⟩
    · rw [moveWordIn_last own last]
      exact (h.of_frame (t := s.setPort p _) ⟨rfl, rfl⟩).takeRecord _ (started c own)

theorem acceptClear (p : PortId) (i : ParamBlock) (h : TableTurnsWf up s)
    (started : s.stc.access ≠ .initializing) : TableTurnsWf up (acceptClear p i s) := by
  have busy : TableTurnsWf up (s.updPort p fun q =>
      { q with state := .busy, cmd := some (.start .clearTable i 0 []) }) := h.of_frame ⟨rfl, rfl⟩
  unfold Machine.acceptClear
  dsimp only
  split
  · exact busy.joinItem _ started
  · exact busy.of_frame ⟨rfl, rfl⟩

theorem abandon (p : PortId) (h : TableTurnsWf up s) : TableTurnsWf up (abandon p s) := by
  unfold Machine.abandon
  split
  · exact h
  · split
    · exact h.frame rfl rfl (fun empty => by simp [empty]) (fun empty => by simp [empty]) fun _ => rfl
    · exact h.of_frame (by simp)

theorem writeControl (p : PortId) (v : Byte) (h : TableTurnsWf up s) :
    TableTurnsWf up (writeControl p v s) := by
  unfold Machine.writeControl
  dsimp only
  split
  · exact h.of_frame ⟨rfl, rfl⟩
  · split
    · split
      · exact h.of_frame ⟨rfl, rfl⟩
      · exact (h.abandon p).of_frame ⟨rfl, rfl⟩
    · split <;> exact h.of_frame ⟨rfl, rfl⟩

/-- A batch starts with no search in flight or about to be. -/
theorem startBatch (h : TableTurnsWf up s) : TableTurnsWf up (startBatch s) := by
  unfold Machine.startBatch
  split
  · next due =>
    simp only [batchDue, Bool.and_eq_true, Bool.not_eq_true', beq_iff_eq] at due
    obtain ⟨⟨⟨⟨draining, -⟩, none⟩, g0⟩, g1⟩ := due
    have count := h.inFlight
    have applying : TableTurnsWf up
        { s with stc := { s.stc with queue := [], batch := s.stc.queue, access := .applying } } := by
      refine ⟨h.inFlight, fun d => ⟨fun _ => ?_, fun o => Access.noConfusion o⟩,
        fun other => absurd rfl other, fun o => Access.noConfusion o, fun init => Access.noConfusion init⟩
      cases d
      · exact ⟨by show inFlightOf (s.chan .c0).search = 0; omega, g0⟩
      · exact ⟨by show inFlightOf (s.chan .c1).search = 0; omega, g1⟩
    have joined : TableTurnsWf up (joinWaitingClear
        { s with stc := { s.stc with queue := [], batch := s.stc.queue, access := .applying } }) := by
      unfold joinWaitingClear
      split
      · exact applying
      · split
        · exact (applying.joinItem _ Access.noConfusion).of_frame ⟨rfl, rfl⟩
        · exact applying
    exact joined.of_frame (by simp)
  · exact h

theorem startSearch (c : Chan) (h : TableTurnsWf up s) : TableTurnsWf up (startSearch c s) := by
  by_cases waiting : ∃ b, (s.chan c).search = .waiting b true
  · obtain ⟨b, waiting⟩ := waiting
    have own := startSearch_chan_of_waiting waiting
    have other (d : Chan) (ne : d ≠ c) : (Machine.startSearch c s).chan d = s.chan d :=
      startSearch_chan_other c d s ne
    have stc : (Machine.startSearch c s).stc = { s.stc with inFlight := s.stc.inFlight + 1 } := by
      rw [startSearch_of_waiting waiting]
    have idle : inFlightOf (s.chan c).search = 0 := by rw [waiting]; rfl
    have notApplying : s.stc.access ≠ .applying := fun applying => by
      simpa [waiting, granted] using ((h.fits c).1 applying).2
    refine ⟨?_, fun d => ?_, by rw [stc]; exact h.batch, by rw [stc]; exact h.opened,
      by rw [stc]; exact h.startUp⟩
    · have count := h.inFlight
      have searching : inFlightOf ((Machine.startSearch c s).chan c).search = 1 := by rw [own]; rfl
      rw [stc]
      cases c
      · rw [searching, other .c1 Chan.noConfusion]
        show s.stc.inFlight + 1 = _
        omega
      · rw [searching, other .c0 Chan.noConfusion]
        show s.stc.inFlight + 1 = _
        omega
    · rw [stc]
      by_cases same : d = c
      · subst same
        rw [own]
        exact ⟨fun applying => absurd applying notApplying, fun _ => rfl⟩
      · rw [other d same]
        exact h.fits d
  · rwa [startSearch_of_not_waiting (not_exists.mp waiting)]

/-- The waiting searches are released, into OPEN only where nothing is queued. -/
theorem releasing (h : TableTurnsWf up s) (inFlight : t.stc.inFlight = s.stc.inFlight)
    (released : ∀ d, (t.chan d).search = releaseSearch (s.chan d).search) (empty : t.stc.batch = [])
    (turn : t.stc.access = .opened ∧ t.stc.queue = [] ∨ t.stc.access = .draining) :
    TableTurnsWf up t where
  inFlight := by rw [inFlight, released, released, inFlightOf_releaseSearch, inFlightOf_releaseSearch,
    h.inFlight]
  fits d := by
    refine ⟨fun applying => ?_, fun _ => by rw [released, waitsUngranted_releaseSearch]⟩
    rcases turn with ⟨opened, -⟩ | draining
    · rw [opened] at applying
      cases applying
    · rw [draining] at applying
      cases applying
  batch _ := empty
  opened opened := by
    rcases turn with ⟨-, queue⟩ | draining
    · exact queue
    · rw [draining] at opened
      cases opened
  startUp init := by
    rcases turn with ⟨opened, -⟩ | draining
    · rw [opened] at init
      cases init
    · rw [draining] at init
      cases init

theorem passTurn (h : TableTurnsWf up s) (empty : s.stc.batch = []) : TableTurnsWf up (passTurn s) := by
  refine h.releasing rfl (fun d => by rw [passTurn_chan]) empty ?_
  cases queue : s.stc.queue with
  | nil => exact .inl ⟨by simp [Machine.passTurn, releaseWaiting, queue], queue⟩
  | cons item rest => exact .inr (by simp [Machine.passTurn, releaseWaiting, queue])

theorem dropHit (c : Chan) (h : TableTurnsWf up s) : TableTurnsWf up (dropHit c s) := by
  unfold Machine.dropHit
  split
  · have dropped : TableTurnsWf up (s.updChan c fun ch =>
        { ch with cursor := { ch.cursor with hit := none, hitLost := true } }) := h.updChan c
    exact TableTurnsWf.setFlag c (dropped.of_frame ⟨rfl, rfl⟩)
  · exact h

theorem flagBatch (c : Chan) (b : List EditItem) (h : TableTurnsWf up s) :
    TableTurnsWf up (flagBatch c b s) := by
  unfold Machine.flagBatch
  split
  · exact h.setFlag c
  · exact h

theorem completeBatch (h : TableTurnsWf up s) : TableTurnsWf up (completeBatch s) := by
  have passed (b : List EditItem) {t : State} (h : TableTurnsWf up t) (empty : t.stc.batch = []) :
      TableTurnsWf up (finishTable (Machine.passTurn
        (Machine.flagBatch .c1 b (Machine.flagBatch .c0 b t)))) :=
    (((h.flagBatch .c0 b).flagBatch .c1 b).passTurn (by simpa using empty)).of_frame (by simp)
  have stored (n : TableCounts) (b : BatchWork) : TableTurnsWf up (credit n (storeBatch b s)) :=
    h.frame rfl rfl (fun _ => rfl) id fun _ => rfl
  exact passed _ (((stored _ _).dropHit .c0).dropHit .c1) (by simp; rfl)

theorem endStartUp (h : TableTurnsWf up s) (init : s.stc.access = .initializing) :
    TableTurnsWf up (endStartUp s) :=
  h.releasing rfl (fun d => by rw [endStartUp_chan]) (h.batch (by simp [init]))
    (.inl ⟨rfl, (h.startUp init).1⟩)

theorem offerFrame (h : TableTurnsWf up s) : TableTurnsWf up (offerFrame s) := by
  cases held : s.link.holding with
  | nil => rwa [offerFrame_of_none_held held]
  | cons f rest =>
    cases joins : joinQueue (s.chan f.chan) f.msg with
    | none => rwa [offerFrame_refused held joins]
    | some q =>
      rw [offerFrame_joins held joins]
      exact (h.updChan f.chan (f := fun ch => { ch with queue := q })).of_frame ⟨rfl, rfl⟩

end TableTurnsWf

/-! ## Port A in start-up -/

/-- Port A is in start-up. -/
def StartingUp (s : State) : Prop := inStartUp (s.port .a) = true

theorem startingUp_iff {s : State} :
    StartingUp s ↔ (s.port .a).state = .busy ∧ (s.port .a).cmd = none := by
  simp [StartingUp, inStartUp]

/-- A change that leaves Port A. -/
theorem startingUp_of_port_eq {s t : State} (h : StartingUp s) (same : t.port .a = s.port .a) :
    StartingUp t := by
  unfold StartingUp
  rwa [same]

theorem startingUp_updPort_b {s : State} (h : StartingUp s) (f : PortState → PortState) :
    StartingUp (s.updPort .b f) := startingUp_of_port_eq h (port_updPort_other _ _ _ _ PortId.noConfusion)

theorem startingUp_keptByCompletion : KeptByCompletion .b StartingUp where
  frame h ports _ _ _ := startingUp_of_port_eq h (by rw [State.port, ports]; rfl)
  raise _ h := h
  picks _ _ h := h
  collide h := startingUp_updPort_b h _
  accept h := startingUp_updPort_b h _
  complete _ _ h := startingUp_updPort_b h _

/-- A command is ignored in start-up. -/
theorem issue_startingUp {op : Command} {body : ParamBlock → State → State} {s : State}
    (h : StartingUp s) : issue .a op body s = collide .a s := by
  unfold issue
  rw [if_pos (by simp [(startingUp_iff.mp h).1])]

theorem finishTable_startingUp {s : State} (h : StartingUp s) : finishTable s = s := by
  unfold finishTable
  rw [(startingUp_iff.mp h).2]

theorem openRecord_b_startingUp {s : State} (h : StartingUp s) : StartingUp (openRecord .b s) := by
  unfold openRecord
  split
  · exact h
  · split <;> exact startingUp_updPort_b h _

theorem updCmd_startingUp (p : PortId) (f : Progress → Progress) {s : State} (h : StartingUp s) :
    StartingUp (updCmd p f s) := by
  cases p
  · rw [startingUp_iff] at h ⊢
    rw [port_updCmd_same]
    exact ⟨h.1, by rw [h.2]; rfl⟩
  · exact startingUp_updPort_b h _

theorem startDataIn_b_startingUp (op : Command) (i : ParamBlock) (n : Nat) {s : State}
    (h : StartingUp s) : StartingUp (startDataIn .b op i n s) :=
  openRecord_b_startingUp (startingUp_updPort_b h _)

theorem startDataOut_b_startingUp (op : Command) (i : ParamBlock) (n : Nat) (w : List Word) {s : State}
    (h : StartingUp s) : StartingUp (startDataOut .b op i n w s) :=
  openRecord_b_startingUp (startingUp_updPort_b h _)

/-- Port B holds no table command. -/
theorem not_isTableCommand_of_role_b {op : Command} (role : inRole op .b = true) :
    isTableCommand op = false := by
  by_contra table
  cases isTableCommand_role (Bool.not_eq_false _ ▸ table) role

theorem moveWordIn_b_startingUp (w : Word) {s : State} (ports : PortsWf s) (h : StartingUp s) :
    StartingUp (moveWordIn .b w s) := by
  have k := startingUp_keptByCompletion
  cases own : (s.port .b).cmd with
  | none =>
    unfold moveWordIn
    rwa [own]
  | some c =>
    rcases Nat.lt_or_ge (c.words.length + 1) (recordWords c.op) with within | last
    · rw [moveWordIn_within own within]
      exact startingUp_updPort_b h fun _ => _
    · rw [moveWordIn_last own last]
      have moved (q : PortState) : StartingUp (s.setPort .b q) := startingUp_updPort_b h fun _ => q
      have other := not_isTableCommand_of_role_b (ports.role own)
      unfold takeRecord
      split
      case h_1 op | h_2 op | h_3 op => simp [op, isTableCommand] at other
      case h_4 => exact k.takeView _ (moved _)
      case h_5 => exact k.takeGrid _ (moved _)
      case h_6 => exact k.takeSettings _ _ (moved _)
      all_goals exact moved _

theorem present_b_startingUp (w : List Word) {s : State} (h : StartingUp s) :
    StartingUp (present .b w s) := openRecord_b_startingUp (updCmd_startingUp .b _ h)

theorem recordRead_b_startingUp (op : Command) {s : State} (h : StartingUp s) :
    StartingUp (recordRead .b op s) := by
  have k := startingUp_keptByCompletion
  have counted : StartingUp (countRecord .b s) := updCmd_startingUp .b _ h
  unfold recordRead
  split
  · unfold pickRead
    dsimp only
    split
    · exact k.removePick counted
    · split
      · exact k.complete _ _ (k.removePick counted)
      · exact present_b_startingUp _ (k.removePick counted)
  · unfold frameRecordRead
    dsimp only
    split
    · exact counted
    · split
      · exact k.complete _ _ (k.releasePin counted)
      · split
        · exact present_b_startingUp _ counted
        · exact counted
  case h_3 | h_4 => exact k.complete _ _ h
  all_goals exact h

theorem moveWordOut_b_startingUp {s : State} (h : StartingUp s) : StartingUp (moveWordOut .b s) := by
  unfold moveWordOut
  split
  · exact h
  · next c _ =>
    have moved (q : PortState → PortState) : StartingUp
        (updCmd .b (fun d => { d with words := c.words.tail }) (s.updPort .b q)) :=
      updCmd_startingUp .b _ (startingUp_updPort_b h q)
    dsimp only
    split
    · exact recordRead_b_startingUp _ (startingUp_updPort_b (moved _) _)
    · exact moved _

theorem completeBatch_startingUp {s : State} (h : StartingUp s) : StartingUp (completeBatch s) := by
  have k := startingUp_keptByCompletion.toKeptByRaises
  have finished (b : List EditItem) {t : State} (h : StartingUp t) :
      StartingUp (finishTable (passTurn (flagBatch .c1 b (flagBatch .c0 b t)))) := by
    have passed : StartingUp (passTurn (flagBatch .c1 b (flagBatch .c0 b t))) :=
      startingUp_of_port_eq (k.flagBatch .c1 b (k.flagBatch .c0 b h)) (by simp)
    rwa [finishTable_startingUp passed]
  have credited (n : TableCounts) (b : BatchWork) : StartingUp (credit n (storeBatch b s)) :=
    updCmd_startingUp .a _ (startingUp_of_port_eq h (by simp))
  exact finished _ (k.dropHit .c1 (k.dropHit .c0 (credited _ _)))

theorem timeOut_startingUp (p : PortId) {s : State} (ports : PortsWf s) (h : StartingUp s) :
    StartingUp (timeOut p s) := by
  have k := startingUp_keptByCompletion
  unfold timeOut
  split
  · exact h
  · next c own =>
    cases p with
    | a => rw [(startingUp_iff.mp h).2] at own; cases own
    | b =>
      rw [not_isTableCommand_of_role_b (ports.role own)]
      exact k.complete _ _ (k.releaseFor _ h)

theorem writeControl_startingUp (p : PortId) (v : Byte) {s : State} (h : StartingUp s) :
    StartingUp (writeControl p v s) := by
  unfold writeControl
  dsimp only
  cases p with
  | a => rw [if_pos (show inStartUp (s.port .a) = true from h)]; exact h
  | b =>
    split
    · exact startingUp_updPort_b h _
    · split
      · split
        · exact startingUp_updPort_b h _
        · exact startingUp_updPort_b (startingUp_of_port_eq h (by simp)) _
      · split <;> exact startingUp_updPort_b h _

theorem startBatch_startingUp {s : State} (h : StartingUp s) : StartingUp (startBatch s) := by
  have joined {t : State} (h : StartingUp t) : joinWaitingClear t = t := by
    unfold joinWaitingClear
    rw [(startingUp_iff.mp h).2]
  have opened {t : State} (h : StartingUp t) : openWithheld t = t := by
    unfold openWithheld
    simp [(startingUp_iff.mp h).1]
  unfold startBatch
  split
  · have started : StartingUp
        { s with stc := { s.stc with queue := [], batch := s.stc.queue, access := .applying } } := h
    rw [joined started, opened started]
    exact started
  · exact h

/-- Port A stays in start-up until its end. -/
theorem bodyOf_startingUp (i : Instr) {s : State} (ports : PortsWf s) (h : StartingUp s)
    (stays : i ≠ .endOfInitialization) : StartingUp (bodyOf i s) := by
  have k := startingUp_keptByCompletion
  have busy := (startingUp_iff.mp h).1
  by_cases raises : raisesOnly i = true
  · exact k.toKeptByRaises.bodyOf raises h
  by_cases completes : completingPort i = some .b
  · exact k.bodyOf completes h
  have command {p : PortId} {op : Command} {body : ParamBlock → State → State}
      (hb : ∀ w t, inRole op .b = true → StartingUp t → p = .b → StartingUp (body w t)) :
      StartingUp (issue p op body s) := by
    cases p with
    | a => rw [issue_startingUp h]; exact h
    | b => exact k.issue h fun _ role _ h => hb _ _ role h rfl
  cases i <;> dsimp only [Machine.bodyOf]
  case endOfInitialization => exact absurd rfl stays
  case readCursor p =>
    refine command fun w t _ h own => withChannel_keeps h fun c => ?_
    exact own ▸ startDataOut_b_startingUp _ _ _ _ h
  case clearEvents p | setEventMask p | setBurst p =>
    refine command fun w t _ h own => ?_
    subst own
    exact k.complete _ _ (startingUp_updPort_b h _)
  case loadCandidates p | removeCandidates p | setWindow p | setGrid p | setSnap p | setView p =>
    exact command fun w t _ h own => own ▸ startDataIn_b_startingUp _ _ _ h
  case identify p => exact command fun w t _ h own => own ▸ startDataOut_b_startingUp _ _ _ _ h
  case clearTable p => exact command fun w t role => by simp [inRole] at role
  case readPicks p =>
    refine command fun w t role => by simp [inRole] at role
  case fetchOverlay p =>
    refine command fun w t _ h own => ?_
    subst own
    unfold acceptFetch
    split
    · exact updCmd_startingUp .b _ (startDataOut_b_startingUp _ _ _ _ h)
    · exact updCmd_startingUp .b _ (startDataOut_b_startingUp _ _ _ _ h)
  case dataWrite p w =>
    cases p with
    | a => rw [if_neg (by simp [busy])]; exact h
    | b =>
      split
      · exact moveWordIn_b_startingUp w ports h
      · exact k.collide h
  case dataRead p =>
    cases p with
    | a => rw [if_neg (by simp [busy])]; exact h
    | b =>
      split
      · exact moveWordOut_b_startingUp h
      · exact startingUp_updPort_b (k.collide h) _
  case statusRead p =>
    cases p with
    | a => exact h
    | b => exact startingUp_updPort_b h _
  case parameterWrite p pos v =>
    cases p with
    | a => rw [if_neg (by simp [busy])]; exact h
    | b => split <;> exact startingUp_updPort_b h _
  case portSoftReset p v | softResetRelease p v | commandAttentionEnable p v
      | attentionMode p v =>
    exact writeControl_startingUp p v h
  case dataPhaseTimeout p =>
    split
    · exact timeOut_startingUp p ports h
    · exact h
  case pulseEnd p =>
    cases p with
    | a =>
      rw [startingUp_iff, port_updPort_same]
      unfold endPulse
      split <;> exact startingUp_iff.mp h
    | b => exact startingUp_updPort_b h _
  case batchCompletion =>
    split
    · exact completeBatch_startingUp h
    · exact h
  case deviceReset | batchStart | searchStart => exact h
  case fsync | byteArrival | gapTimerExpiry | restTimerExpiry | searchCompletion | buildCompletion
      | reSearch | reportTake | frameOffer => exact absurd rfl raises
  case unknownCommand p code =>
    cases p with
    | a =>
      unfold issueUnknown
      rw [if_pos (by simp [busy])]
      exact h
    | b => exact absurd rfl completes
  all_goals
    next p =>
    cases p with
    | a => rw [issue_startingUp h]; exact h
    | b => exact absurd rfl completes

/-! ## Every row -/

/-- The table has ended start-up where a port other than in start-up acts on it. -/
theorem TableTurnsWf.started {s : State} (h : TableTurnsWf (StartingUp s) s)
    (other : ¬ StartingUp s) : s.stc.access ≠ .initializing := fun init => other (h.startUp init).2

/-- The issue of a command, by what its body does. -/
theorem TableTurnsWf.issue {up : Prop} {p : PortId} {op : Command}
    {body : ParamBlock → State → State} {s : State} (h : TableTurnsWf up s)
    (hb : ∀ w t, (s.port p).state = .ready → inRole op p = true → t.stc = s.stc → TableTurnsWf up t →
      TableTurnsWf up (body w t)) : TableTurnsWf up (Machine.issue p op body s) :=
  issue_keeps h (fun _ h => h.of_frame ⟨rfl, rfl⟩) (fun _ _ _ h => h.of_frame ⟨rfl, rfl⟩)
    fun ready role _ => hb _ _ ready role rfl (h.of_frame ⟨rfl, rfl⟩)

theorem bodyOf_tableTurnsWf (i : Instr) {s : State} (ports : PortsWf s)
    (h : TableTurnsWf (StartingUp s) s) : TableTurnsWf (StartingUp s) (bodyOf i s) := by
  cases i <;> dsimp only [Machine.bodyOf]
  case searchCompletion c => exact h.completeSearch c
  case reportTake c => exact h.takeReport c
  case restTimerExpiry c => exact h.expireRest c
  case reSearch c =>
    split
    · next due =>
      refine h.beginSearch c _ ?_
      simp only [reSearchDue, Bool.and_eq_true, beq_iff_eq] at due
      rw [due.1.1]
      rfl
    · exact h
  case batchCompletion =>
    split
    · exact h.completeBatch
    · exact h
  case endOfInitialization =>
    split
    · next init => exact h.endStartUp init
    · exact h
  case dataWrite p w =>
    split
    · next phase =>
      refine h.moveWordIn w fun c own table => h.started fun starting => ?_
      have a := isTableCommand_role table (ports.role own)
      subst a
      simp [(startingUp_iff.mp starting).1] at phase
    · exact h.of_frame ⟨rfl, rfl⟩
  case portSoftReset p v | softResetRelease p v | commandAttentionEnable p v
      | attentionMode p v =>
    exact h.writeControl p v
  case clearTable p =>
    refine h.issue fun w t ready role stc h' => h'.acceptClear p w ?_
    rw [stc]
    refine h.started fun starting => ?_
    have a := isTableCommand_role (op := .clearTable) rfl role
    subst a
    simp [(startingUp_iff.mp starting).1] at ready
  case resetChannel p =>
    exact h.issue fun w t _ _ _ h => withChannel_keeps h fun c => h.acceptResetChannel p c
  case armFigure p =>
    exact h.issue fun w t _ _ _ h => withChannel_keeps h fun c =>
      h.figure (by simp) (figureOnly_acceptArm p w c t)
  case cancelFigure p =>
    exact h.issue fun w t _ _ _ h => withChannel_keeps h fun c =>
      h.figure (by simp) (figureOnly_acceptCancel p c t)
  case releaseFigure p =>
    exact h.issue fun w t _ _ _ h => withChannel_keeps h fun c =>
      h.figure (by simp) (figureOnly_acceptRelease p w c t)
  case clearStall p =>
    exact h.issue fun w t _ _ _ h => withChannel_keeps h fun c =>
      h.figure (by simp) (figureOnly_acceptClearStall p c t)
  case setRest p =>
    exact h.issue fun w t _ _ _ h => h.kept (by simp) fun d => by simp
  case readCursor | setStation =>
    exact h.issue fun w t _ _ _ h => withChannel_keeps h fun c => h.of_frame (by simp)
  case loadCandidates | removeCandidates | setWindow | setGrid | setSnap | readPicks | flushPicks
      | setPickThreshold | clearLink | setView | setStyle | fetchOverlay | readEvents | clearEvents
      | setEventMask | setBurst | identify =>
    exact h.issue fun w t _ _ _ h => h.of_frame (by simp)
  case frameOffer => exact h.offerFrame.of_frame ⟨rfl, rfl⟩
  case dataRead | dataPhaseTimeout | parameterWrite =>
    split <;> exact h.of_frame (by simp)
  all_goals exact h.of_frame (by simp)

/-- A row other than the end of start-up keeps what stands in start-up. -/
theorem turnsWf_of_stays {s t : State} (h : TableTurnsWf (StartingUp s) t)
    (stays : StartingUp s → StartingUp t) : TurnsWf t := turnsWf_iff.mpr (h.mono stays)

theorem bodyOf_turnsWf (i : Instr) {s : State} (ports : PortsWf s) (h : TurnsWf s) :
    TurnsWf (bodyOf i s) := by
  have kept := bodyOf_tableTurnsWf i ports (turnsWf_iff.mp h)
  by_cases ends : i = .endOfInitialization
  · subst ends
    dsimp only [bodyOf] at kept ⊢
    split at kept
    · next init =>
      rw [if_pos init, turnsWf_iff]
      exact ⟨kept.inFlight, kept.fits, kept.batch, kept.opened, fun init => Access.noConfusion init⟩
    · next started => rwa [if_neg started]
  · exact turnsWf_of_stays kept fun starting => bodyOf_startingUp i ports starting ends

theorem turnsWf_keptByParts : KeptByParts fun s => PortsWf s ∧ TurnsWf s where
  queue l s h := ⟨portsWf_keptByParts.queue l s h.1, h.2⟩
  attention old s h := ⟨portsWf_keptByParts.attention old s h.1, h.2⟩
  search c s h := ⟨portsWf_keptByParts.search c s h.1,
    turnsWf_of_stays ((turnsWf_iff.mp h.2).startSearch c) fun starting =>
      startingUp_of_port_eq starting (startSearch_port c s .a)⟩
  batch s h := ⟨portsWf_keptByParts.batch s h.1,
    turnsWf_of_stays (turnsWf_iff.mp h.2).startBatch startBatch_startingUp⟩
  reset l := ⟨portsWf_keptByParts.reset l, reset_turnsWf⟩
  body i s due h := ⟨portsWf_keptByParts.body i s due h.1, bodyOf_turnsWf i h.1 h.2⟩

/-- Settles O54: the turns of the table are kept by every operation on it, and Port A stays in start-up
until its end. -/
theorem stepKeepsTableTurns : Obligations.StepKeepsTableTurns :=
  fun _ _ => turnsWf_keptByParts.step

end Sys2Proof.Machine
end

section
/-! The capacities of the table are kept by every step: the edit queue, the reservations and the slots (R19,
R20, R174). -/
namespace Sys2Proof.Machine

/-! ## The edit queue -/

/-- A change that leaves the length of the queue and gains Port A no DREQ for a table command. -/
theorem EditQueueWf.frame {s t : State} (h : EditQueueWf s)
    (length : t.stc.queue.length = s.stc.queue.length)
    (dreq : (t.port .a).dreq = true → (s.port .a).dreq = true)
    (op : (t.port .a).cmd.map Progress.op = (s.port .a).cmd.map Progress.op) : EditQueueWf t := by
  refine ⟨length ▸ h.1, fun on c own table => ?_⟩
  rw [own, Option.map_some, eq_comm, Option.map_eq_some_iff] at op
  obtain ⟨d, own', same⟩ := op
  exact length ▸ h.2 (dreq on) d own' (same ▸ table)

/-- A change of neither the queue nor Port A. -/
theorem EditQueueWf.unread {s t : State} (h : EditQueueWf s) (length : t.stc.queue.length = s.stc.queue.length)
    (port : t.port .a = s.port .a) : EditQueueWf t :=
  h.frame length (by rw [port]; exact id) (by rw [port])

/-- A change of a port that gains no DREQ and keeps the operation of its command. -/
theorem EditQueueWf.updPort {s : State} {p : PortId} {f : PortState → PortState} (h : EditQueueWf s)
    (dreq : (f (s.port p)).dreq = true → (s.port p).dreq = true)
    (op : (f (s.port p)).cmd.map Progress.op = (s.port p).cmd.map Progress.op) :
    EditQueueWf (s.updPort p f) := by
  cases p
  · exact h.frame rfl dreq op
  · exact h.unread rfl rfl

/-- A port without DREQ. -/
theorem EditQueueWf.updPort_off {s : State} {p : PortId} {f : PortState → PortState} (h : EditQueueWf s)
    (off : (f (s.port p)).dreq = false) : EditQueueWf (s.updPort p f) := by
  cases p
  · exact ⟨h.1, fun on => by rw [port_updPort_same, off] at on; cases on⟩
  · exact h.unread rfl rfl

theorem editQueueWf_keptByCompletion (p : PortId) : KeptByCompletion p EditQueueWf where
  frame h ports _ _ stc := h.unread (by rw [stc]) (by rw [State.port, ports]; rfl)
  raise _ h := h
  picks _ _ h := h
  collide h := h.updPort id rfl
  accept h := h.updPort id rfl
  complete _ _ h := h.updPort_off rfl

/-- DREQ is withheld where the queue is full. -/
theorem EditQueueWf.openRecord {s : State} (p : PortId) (room : s.stc.queue.length ≤ 16)
    (b : p = .b → EditQueueWf s) : EditQueueWf (openRecord p s) := by
  cases own : (s.port p).cmd with
  | none =>
    have same : Machine.openRecord p s = s := by
      unfold Machine.openRecord
      rw [own]
    rw [same]
    cases p
    · exact ⟨room, fun _ c own' => by rw [own] at own'; cases own'⟩
    · exact b rfl
  | some c =>
    rw [openRecord_eq own]
    cases p
    · refine ⟨room, fun on d own' table => ?_⟩
      rw [port_updPort_same] at on own'
      rw [own, Option.some.injEq] at own'
      subst own'
      rw [withholds_table table, Bool.not_not] at on
      exact of_decide_eq_true on
    · exact (b rfl).unread rfl rfl

theorem EditQueueWf.updCmd {s : State} {p : PortId} {f : Progress → Progress} (h : EditQueueWf s)
    (op : ∀ c, (f c).op = c.op := by exact fun _ => rfl) : EditQueueWf (updCmd p f s) :=
  h.updPort id (by rw [Option.map_map]; congr 1; exact funext op)

theorem EditQueueWf.openRecord_of {s : State} (p : PortId) (h : EditQueueWf s) :
    EditQueueWf (Machine.openRecord p s) := EditQueueWf.openRecord p h.1 fun _ => h

theorem EditQueueWf.startPhase {s : State} {p : PortId} (f : PortState → PortState) (h : EditQueueWf s) :
    EditQueueWf (Machine.openRecord p (s.updPort p f)) :=
  EditQueueWf.openRecord p h.1 fun b => h.unread rfl (by subst b; rfl)

/-- An item joins the queue while Port A is not ready for a word. -/
theorem editQueueWf_joinItem (k : EditKind) {s : State} (room : s.stc.queue.length < 16)
    (off : (s.port .a).dreq = false) : EditQueueWf (joinItem k s) := by
  refine ⟨by simpa [joinItem, Config.editQueueItems] using room, fun on => ?_⟩
  change (s.port .a).dreq = true at on
  rw [off] at on
  cases on

theorem EditQueueWf.finishTable {s : State} (h : EditQueueWf s) : EditQueueWf (finishTable s) := by
  unfold Machine.finishTable
  split
  · exact h
  · split
    · exact h.updPort_off rfl
    · exact h

theorem EditQueueWf.endTablePhase {s : State} (f : FaultCode) (h : EditQueueWf s) :
    EditQueueWf (endTablePhase f s) := (h.updPort_off rfl).finishTable

theorem EditQueueWf.recordStands {s : State} (h : EditQueueWf s) : EditQueueWf (recordStands s) := by
  have counted : EditQueueWf (countRecord .a s) := h.updCmd
  unfold Machine.recordStands
  dsimp only
  split
  · exact counted
  · split
    · exact counted.endTablePhase _
    · exact counted.openRecord_of .a

theorem EditQueueWf.takeRecord {s : State} {p : PortId} {c : Progress} (w : List Word)
    (h : EditQueueWf s) (room : isTableCommand c.op = true →
      s.stc.queue.length < 16 ∧ (s.port .a).dreq = false) : EditQueueWf (takeRecord p c w s) := by
  have k := editQueueWf_keptByCompletion p
  have joins (e : EditKind) {t : State} (queue : t.stc.queue = s.stc.queue)
      (port : t.port .a = s.port .a) (table : isTableCommand c.op = true) :
      EditQueueWf (Machine.recordStands (joinItem e t)) :=
    (editQueueWf_joinItem e (queue ▸ (room table).1) (port ▸ (room table).2)).recordStands
  unfold Machine.takeRecord
  split
  case h_1 op =>
    unfold takeEntry
    split
    · exact h.endTablePhase _
    · split
      · exact joins _ rfl rfl (by rw [op]; rfl)
      · exact h.endTablePhase _
  case h_2 op =>
    unfold takeRemoval
    split
    · exact h.endTablePhase _
    · exact joins _ rfl rfl (by rw [op]; rfl)
  case h_3 op =>
    unfold takeWindow
    split
    · exact joins _ rfl rfl (by rw [op]; rfl)
    · exact h.endTablePhase _
  case h_4 => exact k.takeView w h
  case h_5 => exact k.takeGrid w h
  case h_6 => exact k.takeSettings _ w h
  all_goals exact h

theorem EditQueueWf.moveWordIn {s : State} {p : PortId} (w : Word) (h : EditQueueWf s)
    (ports : PortsWf s) (dreq : (s.port p).dreq = true) : EditQueueWf (moveWordIn p w s) := by
  cases own : (s.port p).cmd with
  | none =>
    unfold Machine.moveWordIn
    rwa [own]
  | some c =>
    rcases Nat.lt_or_ge (c.words.length + 1) (recordWords c.op) with within | last
    · rw [moveWordIn_within own within]
      exact h.updPort (f := fun _ => _) id (by rw [own]; rfl)
    · rw [moveWordIn_last own last]
      refine (h.updPort_off (f := fun _ => _) rfl).takeRecord _ fun table => ?_
      have a := isTableCommand_role table (ports.role own)
      subst a
      exact ⟨h.2 dreq c own table, by rw [port_updPort_same]⟩

theorem EditQueueWf.recordRead {s : State} {p : PortId} (op : Command) (h : EditQueueWf s) :
    EditQueueWf (recordRead p op s) := by
  have k := editQueueWf_keptByCompletion p
  have counted : EditQueueWf (countRecord p s) := h.updCmd
  have present (w : List Word) {t : State} (h : EditQueueWf t) : EditQueueWf (present p w t) :=
    h.updCmd.openRecord_of p
  unfold Machine.recordRead
  split
  · unfold pickRead
    dsimp only
    split
    · exact k.removePick counted
    · split
      · exact k.complete _ _ (k.removePick counted)
      · exact present _ (k.removePick counted)
  · unfold frameRecordRead
    dsimp only
    split
    · exact counted
    · split
      · exact k.complete _ _ (k.releasePin counted)
      · split
        · exact present _ counted
        · exact counted
  case h_3 | h_4 => exact k.complete _ _ h
  all_goals exact h

theorem EditQueueWf.moveWordOut {s : State} (p : PortId) (h : EditQueueWf s) :
    EditQueueWf (moveWordOut p s) := by
  unfold Machine.moveWordOut
  split
  · exact h
  · next c _ =>
    have moved : EditQueueWf (Machine.updCmd p (fun d => { d with words := c.words.tail })
        (s.updPort p fun q => { q with burstAttn := false, readData := c.words.headD 0 })) :=
      (h.updPort (f := fun q => { q with burstAttn := false, readData := c.words.headD 0 }) id rfl).updCmd
    dsimp only
    split
    · exact (moved.updPort_off rfl).recordRead _
    · exact moved

theorem EditQueueWf.acceptClear {s : State} (p : PortId) (i : ParamBlock) (h : EditQueueWf s)
    (off : (s.port p).dreq = false) (role : inRole .clearTable p = true) :
    EditQueueWf (acceptClear p i s) := by
  have a := isTableCommand_role (op := .clearTable) rfl role
  subst a
  unfold Machine.acceptClear
  dsimp only
  split
  · next room => exact editQueueWf_joinItem _ room (by rw [port_updPort_same]; exact off)
  · refine EditQueueWf.updCmd (h.updPort_off off)

theorem EditQueueWf.timeOut {s : State} (p : PortId) (h : EditQueueWf s) : EditQueueWf (timeOut p s) := by
  unfold Machine.timeOut
  split
  · exact h
  · split
    · exact h.endTablePhase _
    · exact ((editQueueWf_keptByCompletion p).releaseFor _ h).updPort_off rfl

theorem EditQueueWf.writeControl {s : State} (p : PortId) (v : Byte) (h : EditQueueWf s) :
    EditQueueWf (writeControl p v s) := by
  have abandoned : EditQueueWf (abandon p s) := by
    refine h.unread ?_ (by simp)
    unfold abandon
    split
    · rfl
    · split
      · exact List.length_map ..
      · simp
  unfold Machine.writeControl
  dsimp only
  split
  · exact h.updPort id rfl
  · split
    · split
      · exact h.updPort id rfl
      · exact abandoned.updPort_off rfl
    · split <;> exact h.updPort id rfl

theorem EditQueueWf.startBatch {s : State} (h : EditQueueWf s) : EditQueueWf (startBatch s) := by
  unfold Machine.startBatch
  split
  · have taken : EditQueueWf
        { s with stc := { s.stc with queue := [], batch := s.stc.queue, access := .applying } } :=
      ⟨Nat.zero_le _, fun _ _ _ _ => (by decide : 0 < 16)⟩
    have joined : EditQueueWf (joinWaitingClear
        { s with stc := { s.stc with queue := [], batch := s.stc.queue, access := .applying } }) := by
      unfold joinWaitingClear
      split
      · exact taken
      · split
        · have joined : EditQueueWf (joinItem .clear
              { s with stc := { s.stc with queue := [], batch := s.stc.queue, access := .applying } }) :=
            ⟨(by decide : 1 ≤ 16), fun _ _ _ _ => (by decide : 1 < 16)⟩
          exact joined.updCmd
        · exact taken
    unfold openWithheld
    dsimp only
    split
    · exact joined.openRecord_of .a
    · exact joined
  · exact h

theorem EditQueueWf.completeBatch {s : State} (h : EditQueueWf s) : EditQueueWf (completeBatch s) := by
  have k := (editQueueWf_keptByCompletion .a).toKeptByRaises
  have finished (b : List EditItem) {t : State} (h : EditQueueWf t) :
      EditQueueWf (Machine.finishTable (passTurn (flagBatch .c1 b (flagBatch .c0 b t)))) := by
    have passed : EditQueueWf (passTurn (flagBatch .c1 b (flagBatch .c0 b t))) :=
      (k.flagBatch .c1 b (k.flagBatch .c0 b h)).unread rfl (passTurn_port _ _)
    exact passed.finishTable
  have credited (n : TableCounts) (b : BatchWork) : EditQueueWf (credit n (storeBatch b s)) :=
    EditQueueWf.updCmd (h.unread rfl rfl)
  exact finished _ (k.dropHit .c1 (k.dropHit .c0 (credited _ _)))

theorem EditQueueWf.endStartUp {s : State} (h : EditQueueWf s) : EditQueueWf (endStartUp s) := by
  refine h.frame rfl (fun on => ?_) ?_
  all_goals
    simp only [State.port, PerPort.get, Machine.endStartUp, leaveStartUp] at *
    split_ifs at *
    all_goals first | exact on | rfl

theorem bodyOf_editQueueWf (i : Instr) {s : State} (ports : PortsWf s) (h : EditQueueWf s) :
    EditQueueWf (bodyOf i s) := by
  have k := editQueueWf_keptByCompletion
  by_cases raises : raisesOnly i = true
  · exact (k .a).toKeptByRaises.bodyOf raises h
  by_cases completes : ∃ p, completingPort i = some p
  · obtain ⟨p, row⟩ := completes
    exact (k p).bodyOf row h
  cases i
  all_goals
    first
      | exact absurd rfl raises
      | exact absurd ⟨_, rfl⟩ completes
      | dsimp only [Machine.bodyOf]
  case readCursor p =>
    exact (k p).issue h fun _ _ _ h => withChannel_keeps h fun c => h.startPhase _
  case clearEvents p | setEventMask p | setBurst p =>
    refine (k p).issue h fun _ _ _ h => (k p).complete _ _ ?_
    exact h.updPort id rfl
  case loadCandidates p | removeCandidates p | setWindow p | setGrid p | setSnap p | setView p
      | identify p =>
    exact (k p).issue h fun _ _ _ h => h.startPhase _
  case clearTable p =>
    refine (k p).issue h fun ready role _ h => h.acceptClear p _ ?_ role
    rw [port_accept_same]
    exact ((ports.port p).off (by simp [ready])).1
  case readPicks p =>
    refine (k p).issue h fun _ _ _ h => ?_
    unfold acceptReadPicks
    split
    · exact (k p).complete _ _ h
    · exact h.startPhase _
  case fetchOverlay p =>
    refine (k p).issue h fun _ _ _ h => ?_
    unfold acceptFetch
    split
    · refine EditQueueWf.updCmd (EditQueueWf.startPhase _ ?_)
      exact h.unread rfl rfl
    · exact EditQueueWf.updCmd (h.startPhase _)
  case dataWrite p w =>
    split
    · next phase => exact h.moveWordIn w ports phase.2
    · exact (k p).collide h
  case dataRead p =>
    split
    · exact h.moveWordOut p
    · exact ((k p).collide h).updPort id rfl
  case statusRead p => exact h.updPort id rfl
  case parameterWrite p pos v =>
    split
    · exact h.updPort id rfl
    · exact (k p).collide h
  case portSoftReset p v | softResetRelease p v | commandAttentionEnable p v
      | attentionMode p v =>
    exact h.writeControl p v
  case endOfInitialization =>
    split
    · exact h.endStartUp
    · exact h
  case dataPhaseTimeout p =>
    split
    · exact h.timeOut p
    · exact h
  case pulseEnd p =>
    have ended (q : PortState) : (endPulse q).dreq = q.dreq ∧ (endPulse q).cmd = q.cmd := by
      unfold endPulse
      split <;> exact ⟨rfl, rfl⟩
    exact h.updPort (by rw [(ended _).1]; exact id) (by rw [(ended _).2])
  case batchCompletion =>
    split
    · exact h.completeBatch
    · exact h
  case deviceReset | batchStart | searchStart => exact h

/-! ## Reservations and slots -/

/-- The INSERT items of a list. -/
def inserts (l : List EditItem) : Nat := (l.filter isInsert).length

theorem inserts_append (l m : List EditItem) : inserts (l ++ m) = inserts l + inserts m := by
  rw [inserts, List.filter_append, List.length_append]
  rfl

theorem inserts_map_orphan (l : List EditItem) : inserts (l.map orphan) = inserts l := by
  have same : isInsert ∘ orphan = isInsert := rfl
  rw [inserts, List.filter_map, List.length_map, same]
  rfl

theorem capacityWf_iff {s : State} :
    CapacityWf s ↔ s.stc.reserved = inserts s.stc.queue + inserts s.stc.batch ∧
      s.stc.table.length + s.stc.reserved ≤ 1024 := by
  rw [← inserts_append]
  rfl

/-- A change that leaves the reservations and frees slots. -/
theorem CapacityWf.frame {s t : State} (h : CapacityWf s) (reserved : t.stc.reserved = s.stc.reserved)
    (queue : inserts t.stc.queue = inserts s.stc.queue) (batch : inserts t.stc.batch = inserts s.stc.batch)
    (table : t.stc.table.length ≤ s.stc.table.length) : CapacityWf t := by
  rw [capacityWf_iff] at h ⊢
  rw [reserved, queue, batch]
  exact ⟨h.1, (Nat.add_le_add_right table _).trans h.2⟩

theorem CapacityWf.of_stc_eq {s t : State} (h : CapacityWf s) (same : t.stc = s.stc) : CapacityWf t := by
  unfold CapacityWf
  rwa [same]

theorem capacityWf_keptByCompletion (p : PortId) : KeptByCompletion p CapacityWf where
  frame h _ _ _ stc := h.frame (by rw [stc]) (by rw [stc]) (by rw [stc]) (by rw [stc])
  raise _ h := h
  picks _ _ h := h
  collide h := h
  accept h := h
  complete _ _ h := h

/-- An item takes a slot only with the reservation that it releases. -/
theorem applyItem_slots (i : EditItem) {b : BatchWork} (held : inserts [i] ≤ b.reserved) :
    (applyItem i.kind b).1.reserved = b.reserved - inserts [i] ∧
      (applyItem i.kind b).1.table.length + (applyItem i.kind b).1.reserved ≤
        b.table.length + b.reserved := by
  obtain ⟨k, o⟩ := i
  cases k with
  | insert e =>
    have one : inserts [⟨.insert e, o⟩] = 1 := rfl
    rw [one] at held ⊢
    simp only [applyItem, applyInsert]
    split
    · exact ⟨rfl, by dsimp only; omega⟩
    · split
      · exact ⟨rfl, by dsimp only; rw [List.length_map]; omega⟩
      · exact ⟨rfl, by dsimp only; rw [List.length_append, List.length_singleton]; omega⟩
  | remove h k => exact ⟨rfl, Nat.add_le_add_right (List.length_filter_le ..) _⟩
  | evict c w =>
    refine ⟨rfl, Nat.add_le_add_right ?_ _⟩
    exact (List.length_filter_le ..).trans (List.length_map ..).le
  | clear => exact ⟨rfl, Nat.add_le_add_right (Nat.zero_le _) _⟩

theorem applyItems_slots : ∀ (items : List EditItem) {b : BatchWork}, inserts items ≤ b.reserved →
    (applyItems items b).1.reserved = b.reserved - inserts items ∧
      (applyItems items b).1.table.length + (applyItems items b).1.reserved ≤
        b.table.length + b.reserved
  | [], _, _ => ⟨rfl, le_rfl⟩
  | i :: rest, b, held => by
    rw [← List.singleton_append, inserts_append] at held
    obtain ⟨reserved, slots⟩ := applyItem_slots i (b := b) (by omega)
    obtain ⟨reserved', slots'⟩ := applyItems_slots rest (b := (applyItem i.kind b).1) (by omega)
    refine ⟨?_, slots'.trans slots⟩
    rw [← List.singleton_append, inserts_append]
    exact reserved'.trans (by omega)

theorem CapacityWf.completeBatch {s : State} (h : CapacityWf s) : CapacityWf (completeBatch s) := by
  obtain ⟨table, -⟩ := completeBatch_work s
  rw [capacityWf_iff] at h ⊢
  have reserved : (Machine.completeBatch s).stc.reserved =
      (applyItems s.stc.batch ⟨s.stc.table, s.stc.windows, s.stc.reserved⟩).1.reserved := by
    simp [Machine.completeBatch, passTurn, storeBatch]
  have queue : (Machine.completeBatch s).stc.queue = s.stc.queue := by
    simp [Machine.completeBatch, passTurn, storeBatch]
  have batch : (Machine.completeBatch s).stc.batch = [] := by
    simp [Machine.completeBatch, passTurn, storeBatch]
  obtain ⟨left, slots⟩ := applyItems_slots s.stc.batch (b := ⟨s.stc.table, s.stc.windows, s.stc.reserved⟩)
    (by dsimp only; omega)
  dsimp only at left slots
  rw [reserved, queue, batch, table]
  have none : inserts [] = 0 := rfl
  omega

/-- An item other than an INSERT joins the queue. -/
theorem CapacityWf.joinItem {s : State} {k : EditKind} (h : CapacityWf s)
    (other : isInsert ⟨k, .inProgress⟩ = false) : CapacityWf (joinItem k s) := by
  refine h.frame rfl ?_ rfl le_rfl
  show inserts (s.stc.queue ++ [⟨k, .inProgress⟩]) = _
  rw [inserts_append]
  simp [inserts, other]

/-- An INSERT item joins the queue with a reservation. -/
theorem CapacityWf.joinInsert {s : State} (e : Entry) (h : CapacityWf s) (free : slotFree s = true) :
    CapacityWf (Machine.joinItem (.insert e) (reserveSlot s)) := by
  rw [capacityWf_iff] at h ⊢
  have room : s.stc.table.length + s.stc.reserved < 1024 := of_decide_eq_true free
  have one : inserts [⟨.insert e, .inProgress⟩] = 1 := rfl
  show s.stc.reserved + 1 = inserts (s.stc.queue ++ [⟨.insert e, .inProgress⟩]) + inserts s.stc.batch ∧
    s.stc.table.length + (s.stc.reserved + 1) ≤ 1024
  rw [inserts_append]
  omega

theorem CapacityWf.takeRecord {s : State} {p : PortId} {c : Progress} (w : List Word)
    (h : CapacityWf s) : CapacityWf (takeRecord p c w s) := by
  have k := capacityWf_keptByCompletion p
  have ends (f : FaultCode) : CapacityWf (endTablePhase f s) := h.of_stc_eq (by simp)
  have stands {t : State} (h : CapacityWf t) : CapacityWf (recordStands t) := h.of_stc_eq (by simp)
  unfold Machine.takeRecord
  split
  case h_1 =>
    unfold takeEntry
    split
    · exact ends _
    · split
      · next free => exact stands (h.joinInsert _ free)
      · exact ends _
  case h_2 =>
    unfold takeRemoval
    split
    · exact ends _
    · exact stands (h.joinItem rfl)
  case h_3 =>
    unfold takeWindow
    split
    · exact stands (h.joinItem rfl)
    · exact ends _
  case h_4 => exact k.takeView w h
  case h_5 => exact k.takeGrid w h
  case h_6 => exact k.takeSettings _ w h
  all_goals exact h

theorem CapacityWf.moveWordIn {s : State} (p : PortId) (w : Word) (h : CapacityWf s) :
    CapacityWf (moveWordIn p w s) := by
  unfold Machine.moveWordIn
  split
  · exact h
  · dsimp only
    split
    · exact h
    · exact CapacityWf.takeRecord _ h

theorem CapacityWf.acceptClear {s : State} (p : PortId) (i : ParamBlock) (h : CapacityWf s) :
    CapacityWf (acceptClear p i s) := by
  unfold Machine.acceptClear
  dsimp only
  split
  · exact CapacityWf.joinItem (s := s.updPort p _) h rfl
  · exact h

theorem CapacityWf.writeControl {s : State} (p : PortId) (v : Byte) (h : CapacityWf s) :
    CapacityWf (writeControl p v s) := by
  have abandoned : CapacityWf (abandon p s) := by
    unfold abandon
    split
    · exact h
    · split
      · exact h.frame rfl (inserts_map_orphan _) (inserts_map_orphan _) le_rfl
      · exact h.of_stc_eq (by simp)
  unfold Machine.writeControl
  dsimp only
  split
  · exact h
  · split
    · split
      · exact h
      · exact abandoned
    · split <;> exact h

/-- The queue becomes the batch, where no batch is being applied. -/
theorem CapacityWf.startBatch {s : State} (h : CapacityWf s) (turns : TurnsWf s) :
    CapacityWf (startBatch s) := by
  unfold Machine.startBatch
  split
  · next due =>
    have draining : s.stc.access = .draining := by
      simp only [batchDue, Bool.and_eq_true, beq_iff_eq] at due
      exact due.1.1.1.1
    have empty : s.stc.batch = [] := (turnsWf_iff.mp turns).batch (by simp [draining])
    have taken : CapacityWf
        { s with stc := { s.stc with queue := [], batch := s.stc.queue, access := .applying } } := by
      rw [capacityWf_iff] at h ⊢
      rw [empty] at h
      refine ⟨h.1.trans (Nat.add_comm _ _), h.2⟩
    refine CapacityWf.of_stc_eq (s := joinWaitingClear
      { s with stc := { s.stc with queue := [], batch := s.stc.queue, access := .applying } }) ?_ (by simp)
    unfold joinWaitingClear
    split
    · exact taken
    · split
      · exact taken.joinItem rfl
      · exact taken
  · exact h

theorem bodyOf_capacityWf (i : Instr) {s : State} (h : CapacityWf s) : CapacityWf (bodyOf i s) := by
  have k := capacityWf_keptByCompletion
  by_cases raises : raisesOnly i = true
  · exact (k .a).toKeptByRaises.bodyOf raises h
  by_cases completes : ∃ p, completingPort i = some p
  · obtain ⟨p, row⟩ := completes
    exact (k p).bodyOf row h
  cases i
  all_goals
    first
      | exact absurd rfl raises
      | exact absurd ⟨_, rfl⟩ completes
      | dsimp only [Machine.bodyOf]
  case readCursor p =>
    exact (k p).issue h fun _ _ _ h => withChannel_keeps h fun c => h.of_stc_eq (by simp)
  case clearTable p => exact (k p).issue h fun _ _ _ h => h.acceptClear p _
  case loadCandidates p | removeCandidates p | setWindow p | setGrid p | setSnap p | setView p
      | identify p | readPicks p | fetchOverlay p | clearEvents p | setEventMask p | setBurst p =>
    exact (k p).issue h fun _ _ _ h => h.of_stc_eq (by simp)
  case dataWrite p w =>
    split
    · exact h.moveWordIn p w
    · exact h
  case portSoftReset p v | softResetRelease p v | commandAttentionEnable p v
      | attentionMode p v =>
    exact h.writeControl p v
  case endOfInitialization =>
    split
    · exact h.frame rfl rfl rfl (Nat.zero_le _)
    · exact h
  case batchCompletion =>
    split
    · exact h.completeBatch
    · exact h
  case dataRead | parameterWrite | dataPhaseTimeout => split <;> exact h.of_stc_eq (by simp)
  case statusRead | pulseEnd | deviceReset | batchStart | searchStart => exact h

theorem startSearch_stc (c : Chan) (s : State) :
    (startSearch c s).stc = { s.stc with inFlight := (startSearch c s).stc.inFlight } := by
  unfold startSearch
  split <;> rfl

/-- Settles O55: with the ports and the turns of the table well formed, each item that joins the queue finds
a place and each INSERT a slot, which it holds until it is applied. -/
theorem stepKeepsTableCapacity : Obligations.StepKeepsTableCapacity := by
  have k := turnsWf_keptByParts
  have kept : KeptByParts fun s => (PortsWf s ∧ TurnsWf s) ∧ EditQueueWf s ∧ CapacityWf s := {
    queue := fun l s h => ⟨k.queue l s h.1, h.2⟩
    attention := fun old s h => ⟨k.attention old s h.1, h.2⟩
    search := fun c s h => ⟨k.search c s h.1,
      h.2.1.unread (by rw [startSearch_stc]) (startSearch_port c s .a),
      h.2.2.frame (by rw [startSearch_stc]) (by rw [startSearch_stc]) (by rw [startSearch_stc])
        (by rw [startSearch_stc])⟩
    batch := fun s h => ⟨k.batch s h.1, h.2.1.startBatch, h.2.2.startBatch h.1.2⟩
    reset := fun l => ⟨k.reset l, reset_editQueueWf, reset_capacityWf⟩
    body := fun i s due h => ⟨k.body i s due h.1, bodyOf_editQueueWf i h.1.1 h.2.1, bodyOf_capacityWf i h.2.2⟩ }
  intro s t step h
  obtain ⟨ports, turns, queue, capacity⟩ := h
  obtain ⟨⟨ports, turns⟩, queue, capacity⟩ := kept.step step ⟨⟨ports, turns⟩, queue, capacity⟩
  exact ⟨ports, turns, queue, capacity⟩

end Sys2Proof.Machine
end

section
/-! One event from a state where no start is due, by what it makes of the ports. -/
namespace Sys2Proof.Machine

/-! ## The ports after an event -/

/-- The ports at the end of an event that has latched `l` and made `q` of one port. -/
theorem portsBecome_driveAttention {p : PortId} {q : PortState} {l : EventSet → EventSet} {s u : State}
    (own : u.port p = { q with latched := l q.latched })
    (other : u.port (otherPort p) =
      { s.port (otherPort p) with latched := l (s.port (otherPort p)).latched }) :
    PortsBecome p q l s (driveAttention s u) := by
  have driven (r : PortId) : (driveAttention s u).port r =
      { u.port r with attn := nextAttn (s.port r) (u.port r) } := by cases r <;> rfl
  exact ⟨by rw [driven, own], by rw [driven, other]⟩

/-- What an event answers that has latched `l` and made `q` of one port. -/
theorem event_becomes {p : PortId} {q : PortState} {l : EventSet → EventSet} {f : State → State}
    {s u : State} (due : NothingDue s) (effect : f s = u)
    (own : u.port p = { q with latched := l q.latched })
    (other : u.port (otherPort p) =
      { s.port (otherPort p) with latched := l (s.port (otherPort p)).latched }) :
    ∃ t, event f s = .next t ∧ t = { u with ports := t.ports } ∧ PortsBecome p q l s t :=
  ⟨_, by rw [event_of_nothingDue due, effect], rfl, portsBecome_driveAttention own other⟩

/-- What an event answers that makes `q` of one port, latches nothing, and leaves the other. -/
theorem event_port {p : PortId} {q : PortState} {f : State → State} {s u : State} (due : NothingDue s)
    (effect : f s = u) (own : u.port p = q) (other : u.port (otherPort p) = s.port (otherPort p)) :
    ∃ t, event f s = .next t ∧ t = { u with ports := t.ports } ∧ PortsBecome p q id s t :=
  event_becomes due effect own other

/-- What an event answers that changes one port alone. -/
theorem event_setPort {p : PortId} {q : PortState} {f : State → State} {s : State} (due : NothingDue s)
    (effect : f s = s.setPort p q) :
    ∃ t, event f s = .next t ∧ t = { s with ports := t.ports } ∧ PortsBecome p q id s t :=
  event_port (u := s.setPort p q) due effect (port_setPort_same ..) (port_setPort_other _ _ _ _ (otherPort_ne p))

/-! ## The issue of a command -/

/-- A command that is accepted and completes, with its effect on the port and on the rest. -/
theorem complete_accept_eq (p : PortId) (o : ParamBlock) (f : FaultCode) (s : State) :
    complete p o f (accept p s) = s.setPort p (servedPort (s.port p) o f) := by
  cases p <;> rfl

/-- An accepted command is its body on the accepting state. -/
theorem issue_of_ready {p : PortId} {op : Command} {w : ParamBlock} {body : ParamBlock → State → State}
    {s : State} (ready : Ready p w s) (role : inRole op p = true) (ok : paramsOk op w = true) :
    issue p op body s = body w (accept p s) := by
  obtain ⟨-, state, window⟩ := ready
  exact issue_accepted state window role ok

/-! ## One step and the starts -/

/-- Settles O1: a step is `exec` of the front command on the queue's rest. -/
theorem stepRunsFrontCommand : Obligations.StepRunsFrontCommand := by
  refine ⟨fun c s => rfl, fun s empty => ?_⟩
  unfold step
  rw [empty]

/-- A row other than the starts and device reset begins with the starts that are due. -/
theorem exec_settle {i : Instr} (s : State) (notReset : i ≠ .deviceReset) (notBatch : i ≠ .batchStart)
    (notSearch : ∀ c, i ≠ .searchStart c) : exec i (settle s) = exec i s := by
  by_cases row : i.wf = true
  · rw [exec_eq_event s row notReset notBatch notSearch,
      exec_eq_event (settle s) row notReset notBatch notSearch, event_settle]
  · cases i
    case unknownCommand p code =>
      have names := Option.isSome_iff_ne_none.mpr (by simpa [Instr.wf] using row)
      simp [exec, execUnknownCommand, names]
    case portSoftReset p v | softResetRelease p v | commandAttentionEnable p v =>
      exact event_settle (writeControl p v) s
    all_goals exact absurd rfl row

/-- The starts leave a channel as its own search start does. -/
theorem settle_chan (s : State) (c : Chan) :
    (settle s).chan c = (startSearch .c1 (startSearch .c0 s)).chan c := by
  unfold settle
  dsimp only
  split
  · rw [chan_driveAttention, startBatch_chan]
  · rfl

theorem settle_chan_of_waiting {s : State} {c : Chan} {b : SearchBasis}
    (waiting : (s.chan c).search = .waiting b true) :
    (settle s).chan c =
      { s.chan c with search := .searching b .none (fixInputs s c b), flag := false } := by
  rw [settle_chan]
  cases c
  · rw [startSearch_chan_other _ _ _ Chan.noConfusion, startSearch_chan_of_waiting waiting]
  · have same := startSearch_chan_other .c0 .c1 s Chan.noConfusion
    rw [startSearch_chan_of_waiting (by rw [same]; exact waiting)]
    simp only [fixInputs, same, (startSearch_frame .c0 s).2.1, (startSearch_frame .c0 s).2.2.1]

/-- A batch that is due starts, no search being granted the table. -/
theorem settle_of_batchDue {s : State} (due : batchDue s = true) :
    settle s = driveAttention s (startBatch s) := by
  have granted : granted (s.chan .c0).search = false ∧ granted (s.chan .c1).search = false := by
    simp only [batchDue, Bool.and_eq_true, Bool.not_eq_true'] at due
    exact ⟨due.1.2, due.2⟩
  unfold settle
  rw [startSearch_of_not_granted .c0 s granted.1, startSearch_of_not_granted .c1 s granted.2]
  exact if_pos due

theorem joinWaitingClear_batch (s : State) : (joinWaitingClear s).stc.batch = s.stc.batch := by
  unfold joinWaitingClear
  split
  · rfl
  · split <;> rfl

theorem startBatch_batch {s : State} (due : batchDue s = true) :
    (startBatch s).stc.batch = s.stc.queue := by
  unfold startBatch
  rw [if_pos due, openWithheld_stc, joinWaitingClear_batch]

/-- Settles O2: `settle` is idempotent, so a row begins alike from both states, and it makes the starts. -/
theorem startsComeFirst : Obligations.StartsComeFirst := by
  refine ⟨fun i s notReset notBatch notSearch => (exec_settle s notReset notBatch notSearch).symm,
    nothingDue_settle, fun s => settle_of_nothingDue, fun s c b waiting => ?_, fun s due => ?_⟩
  · rw [settle_chan_of_waiting waiting]
    exact ⟨rfl, rfl⟩
  · rw [settle_of_batchDue due]
    exact ⟨startBatch_access due, startBatch_batch due⟩

/-! ## Every command answers -/

theorem bodyOf_pending (i : Instr) (s : State) : (bodyOf i s).pending = s.pending := by
  cases i <;> dsimp only [bodyOf]
  case resetChannel | readCursor | armFigure | cancelFigure | releaseFigure | clearStall
      | setStation =>
    exact issue_field State.pending (fun _ _ => rfl) fun w t =>
      withChannel_field State.pending w _ t fun c u => by simp
  case loadCandidates | removeCandidates | setWindow | setGrid | setSnap | setRest | readPicks
      | flushPicks | setPickThreshold | clearLink | setView | setStyle | fetchOverlay | readEvents
      | clearEvents | setEventMask | setBurst | identify | clearTable =>
    exact issue_field State.pending (fun _ _ => rfl) fun w t => by simp
  case dataWrite | dataRead | parameterWrite | endOfInitialization | dataPhaseTimeout
      | batchCompletion | reSearch => split <;> simp
  all_goals simp

theorem exec_pending {i : Instr} {s t : State} (h : exec i s = .next t) : t.pending = s.pending := by
  rcases exec_next h with rfl | rfl | rfl | ⟨c, rfl⟩
  · have body := bodyOf_pending i (settle s)
    simpa using body
  · rfl
  · simp
  · simp

/-- Only a known code in the row for unknown ones is refused (log 14). -/
theorem exec_answers (i : Instr) (s : State)
    (unknown : ∀ p code, i = .unknownCommand p code → commandOfCode code = none) :
    ∃ t, exec i s = .next t := by
  cases i
  case unknownCommand p code =>
    exact ⟨_, by rw [exec, execUnknownCommand, unknown p code rfl]; rfl⟩
  all_goals exact ⟨_, rfl⟩

theorem batchDue_eq_false {s : State}
    (h : s.stc.access ≠ .draining ∨ s.stc.queue = [] ∨ s.stc.inFlight ≠ 0) : batchDue s = false := by
  unfold batchDue
  rcases h with h | h | h <;> simp [h]

theorem takeReport_of_none {c : Chan} {s : State}
    (h : (s.chan c).search ≠ .quiet ∨ (s.chan c).queue = []) : takeReport c s = s := by
  unfold takeReport
  split
  case h_1 quiet taken => simp [quiet, taken] at h
  all_goals rfl

theorem reSearchDue_eq_false {ch : Channel}
    (h : ch.search ≠ .quiet ∨ ch.queue ≠ [] ∨ ch.flag = false) : reSearchDue ch = false := by
  unfold reSearchDue
  rcases h with h | h | h <;> simp [h]

theorem completeSearch_of_none {c : Chan} {s : State}
    (h : ∀ b m i, (s.chan c).search ≠ .searching b m i) : completeSearch c s = s := by
  unfold completeSearch
  split
  case h_1 | h_2 | h_3 => next searching => exact absurd searching (h _ _ _)
  all_goals rfl

theorem expireRest_of_stopped {c : Chan} {s : State} (h : (s.chan c).timer = .stopped) :
    expireRest c s = s := by
  unfold expireRest
  rw [h]

theorem build_of_not_building {b : Buffer} (h : ∀ d, b ≠ .building d) :
    finishBuffer b = b ∧ truncates b = false := by
  cases b with
  | building d => exact absurd rfl (h d)
  | _ => exact ⟨rfl, rfl⟩

theorem completeBuild_of_none {s : State} (x : ∀ d, s.overlay.bufX ≠ .building d)
    (y : ∀ d, s.overlay.bufY ≠ .building d) : completeBuild s = s := by
  obtain ⟨sameX, noneX⟩ := build_of_not_building x
  obtain ⟨sameY, noneY⟩ := build_of_not_building y
  unfold completeBuild
  rw [sameX, sameY, noneX, noneY]
  rfl

theorem expireGap_of_hunt {s : State} (h : s.link.assembler = .hunt) : expireGap s = s := by
  unfold expireGap
  rw [h]

theorem driveHold_of_level {s : State} (h : s.link.hold = holdLevel s.link) : driveHold s = s := by
  unfold driveHold
  rw [← h]

theorem endPulse_of_not_pulsing {p : PortId} {s : State} (h : (s.port p).attn ≠ .pulsing) :
    s.updPort p endPulse = s := by
  have same : endPulse (s.port p) = s.port p := if_neg h
  rw [State.updPort, same]
  cases p <;> rfl

/-- Settles O3: every row is total, and an event that cannot arise leaves the state it is given. -/
theorem everyCommandAnswers : Obligations.EveryCommandAnswers := by
  refine ⟨fun i s unknown => ?_, fun p code s names => ?_, fun c s waits => ?_, fun s => ⟨fun idle => ?_,
    fun due => ⟨fun c idle => ?_, fun c idle => ?_, fun c idle => ?_, fun idle => ?_, fun idle => ?_,
      fun x y => ?_, fun held level => ?_, fun idle => ?_, fun c idle => ?_, fun p idle => ?_,
      fun p idle => ?_⟩⟩⟩
  · obtain ⟨t, run⟩ := exec_answers i s unknown
    exact ⟨t, run, exec_pending run⟩
  · simp [exec, execUnknownCommand, Option.isSome_iff_ne_none.mpr names]
  · exact congrArg Host.Outcome.next (startSearch_of_not_waiting waits)
  · refine ⟨_, congrArg (fun t => Host.Outcome.next (driveAttention s t))
      (startBatch_of_not_due (batchDue_eq_false idle)), driveAttention_self s⟩
  · exact event_without_effect due (bodyOf (.reportTake c)) (takeReport_of_none idle)
  · exact event_without_effect due (bodyOf (.reSearch c))
      (if_neg (by rw [reSearchDue_eq_false idle]; exact Bool.noConfusion))
  · exact event_without_effect due (bodyOf (.searchCompletion c)) (completeSearch_of_none idle)
  · exact event_without_effect due (bodyOf .batchCompletion) (if_neg idle)
  · exact event_without_effect due (bodyOf .endOfInitialization) (if_neg idle)
  · exact event_without_effect due (bodyOf .buildCompletion) (completeBuild_of_none x y)
  · refine event_without_effect due (bodyOf .frameOffer) ?_
    show driveHold (offerFrame s) = s
    rw [offerFrame_of_none_held held, driveHold_of_level level]
  · exact event_without_effect due (bodyOf .gapTimerExpiry) (expireGap_of_hunt idle)
  · exact event_without_effect due (bodyOf (.restTimerExpiry c)) (expireRest_of_stopped idle)
  · exact event_without_effect due (bodyOf (.dataPhaseTimeout p))
      (if_neg (by rw [idle]; exact Bool.noConfusion))
  · exact event_without_effect due (bodyOf (.pulseEnd p)) (endPulse_of_not_pulsing idle)

end Sys2Proof.Machine
end

section
/-! The issue of a command: codes, roles and parameters (R166, R169 to R171, R195). -/
namespace Sys2Proof.Machine

/-! ## Codes -/

theorem commandOfCode_code (c : Command) : commandOfCode c.code = some c := by cases c <;> rfl

theorem code_of_commandOfCode {code : Byte} {c : Command} (h : commandOfCode code = some c) :
    c.code = code := by
  have found := List.find?_some (p := fun c : Command => c.code == code) h
  exact eq_of_beq found

theorem commandOfCode_eq_none {code : Byte} (h : code ∉ Command.all.map Command.code) :
    commandOfCode code = none :=
  List.find?_eq_none.mpr fun c mem same => h (List.mem_map.mpr ⟨c, mem, eq_of_beq same⟩)

theorem rowOfCode_of_unknown {p : PortId} {code : Byte} (h : commandOfCode code = none) :
    rowOfCode p code = .unknownCommand p code := by
  unfold rowOfCode
  rw [h]

/-- Settles O49: the codes, the event positions and the decoder, by the tables that give them. -/
theorem commandCodesNameCommands : Obligations.CommandCodesNameCommands :=
  ⟨⟨rfl, rfl⟩, ⟨rfl, rfl, fun _ _ => rfl⟩, commandOfCode_code, fun _ _ => code_of_commandOfCode,
    fun _ _ h => rowOfCode_of_unknown (commandOfCode_eq_none h)⟩

/-! ## Commands that are turned away -/

theorem refuse_accept_eq (p : PortId) (f : FaultCode) (s : State) :
    refuse p f (accept p s) = s.setPort p (servedPort (s.port p) .zero f) := complete_accept_eq p .zero f s

/-- A write of COMMAND outside READY, whatever its code. -/
theorem exec_rowOfCode_outside_ready {p : PortId} (code : Byte) {s : State} (due : NothingDue s)
    (other : (s.port p).state ≠ .ready) :
    ∃ t, exec (rowOfCode p code) s = .next t ∧ t = { s with ports := t.ports } ∧
      PortsBecome p { s.port p with collide := true } id s t := by
  cases names : commandOfCode code with
  | some op =>
    obtain ⟨body, row⟩ := exec_row p op
    rw [← code_of_commandOfCode names, row]
    exact event_setPort due (issue_outside_ready other)
  | none =>
    rw [rowOfCode_of_unknown names,
      exec_eq_event s (by simp [Instr.wf, names]) Instr.noConfusion Instr.noConfusion
        fun _ => Instr.noConfusion]
    exact event_setPort due (if_pos other)

/-- Settles O4: outside READY a write collides; in READY an unknown code and a command of the other role
complete with their fault. -/
theorem commandIssueIsTurnedAway : Obligations.CommandIssueIsTurnedAway := by
  refine ⟨fun p code s due other => ?_, fun p s due ready => ⟨fun code unknown => ?_, fun op role => ?_⟩⟩
  · obtain ⟨t, run, frame, becomes⟩ := exec_rowOfCode_outside_ready code due other
    exact ⟨t, run, becomes, frame⟩
  · rw [exec_eq_event s (by simp [Instr.wf, commandOfCode_eq_none unknown]) Instr.noConfusion
      Instr.noConfusion fun _ => Instr.noConfusion]
    obtain ⟨t, run, frame, becomes⟩ := event_setPort (f := bodyOf (.unknownCommand p code)) due
      ((if_neg (not_not.mpr ready)).trans (refuse_accept_eq p .unknown s))
    exact ⟨t, run, becomes, frame⟩
  · have outside : inRole op p = false := by
      rcases role with ⟨rfl, mem⟩ | ⟨rfl, mem⟩
      · fin_cases mem <;> rfl
      · fin_cases mem <;> rfl
    obtain ⟨body, row⟩ := exec_row p op
    obtain ⟨t, run, frame, becomes⟩ := event_setPort due
      ((issue_role (op := op) (body := body) ready outside).trans (refuse_accept_eq p .role s))
    exact ⟨t, by rw [row, run], becomes, frame⟩

/-! ## Parameters -/

theorem chanOfByte_isSome {b : Byte} (h : (chanOfByte b).isSome = true) : b.toNat ≤ 1 := by
  unfold chanOfByte at h
  split at h
  · next zero => simp [zero]
  · split at h
    · next one => simp [one]
    · cases h

/-- The event set of three parameter bytes, the lowest first. -/
theorem events_eq (w : ParamBlock) : w.events = w.p2 ++ w.p1 ++ w.p0 := by
  apply BitVec.eq_of_toNat_eq
  have low := w.p0.isLt
  have mid := w.p1.isLt
  have high := w.p2.isLt
  simp only [ParamBlock.events, BitVec.toNat_ofNat, BitVec.toNat_append]
  rw [← Nat.shiftLeft_add_eq_or_of_lt low, ← Nat.shiftLeft_add_eq_or_of_lt mid, Nat.shiftLeft_eq,
    Nat.shiftLeft_eq]
  omega

/-- The reserved positions of an event set stand at bit 7 of PARAM0 and of PARAM1. -/
theorem events_getLsbD (w : ParamBlock) :
    w.events.getLsbD 7 = w.p0.getLsbD 7 ∧ w.events.getLsbD 15 = w.p1.getLsbD 7 := by
  rw [events_eq]
  simp only [BitVec.getLsbD_append]
  exact ⟨rfl, rfl⟩

theorem eventsOk_iff (w : ParamBlock) :
    w.eventsOk = true ↔ w.p0.getLsbD 7 = false ∧ w.p1.getLsbD 7 = false := by
  obtain ⟨seven, fifteen⟩ := events_getLsbD w
  refine ⟨fun ok => by rw [← seven, ← fifteen]; exact events_reserved ok, fun ⟨low, mid⟩ => ?_⟩
  have reserved : ∀ i < 24, reservedEvents.getLsbD i = decide (i = 7 ∨ i = 15) := by decide
  refine beq_iff_eq.mpr (BitVec.eq_of_getLsbD_eq fun i small => ?_)
  rw [BitVec.getLsbD_and, reserved i small, show BitVec.getLsbD 0 i = false from BitVec.getLsbD_zero]
  by_cases named : i = 7 ∨ i = 15
  · rcases named with rfl | rfl
    · rw [seven, low, Bool.false_and]
    · rw [fifteen, mid, Bool.false_and]
  · simp [named]

theorem paramsOk_iff {op : Command} {w : ParamBlock} : paramsOk op w = true ↔
    (namesChannel op = true → (chanOfByte w.p0).isSome = true) ∧ reservedOk (usedParams op) w = true ∧
      ownChecksOk op w = true := by
  simp only [paramsOk, Bool.and_eq_true, and_assoc]
  cases namesChannel op <;> simp

theorem reservedOk_iff {used : Nat} {w : ParamBlock} : reservedOk used w = true ↔
    (used < 1 → w.p0 = 0) ∧ (used < 2 → w.p1 = 0) ∧ (used < 3 → w.p2 = 0) ∧ (used < 4 → w.p3 = 0) := by
  have or_iff (n : Nat) (b : Byte) : (decide (used ≥ n) || b == 0) = true ↔ (used < n → b = 0) := by
    rw [Bool.or_eq_true, decide_eq_true_eq, beq_iff_eq, or_iff_not_imp_left, Nat.not_le]
  simp only [reservedOk, Bool.and_eq_true, or_iff, and_assoc]

theorem template_code_of_ofCode {n : Nat} {t : Template} (h : Template.ofCode n = some t) :
    t.code = n := by
  have code := List.find?_some (p := fun k : Template => k.code == n) h
  exact eq_of_beq code

theorem action_ofCode_range {n : Nat} (h : (Action.ofCode n).isSome = true) : 1 ≤ n ∧ n ≤ 3 := by
  obtain ⟨a, found⟩ := Option.isSome_iff_exists.mp h
  have code := List.find?_some (p := fun k : Action => k.code == n) found
  rw [← eq_of_beq code]
  cases a <;> decide

theorem crosshairForm_ofCode_le {n : Nat} (h : (CrosshairForm.ofCode n).isSome = true) : n ≤ 1 := by
  obtain ⟨f, found⟩ := Option.isSome_iff_exists.mp h
  have code := List.find?_some (p := fun k : CrosshairForm => k.code == n) found
  rw [← eq_of_beq code]
  cases f <;> decide

theorem pattern_ofCode_le {n : Nat} (h : (Pattern.ofCode n).isSome = true) : n ≤ 1 := by
  obtain ⟨f, found⟩ := Option.isSome_iff_exists.mp h
  have code := List.find?_some (p := fun k : Pattern => k.code == n) found
  rw [← eq_of_beq code]
  cases f <;> decide

/-- What ARM FIGURE's own checks let pass. -/
theorem armOk_range {w : ParamBlock} (ok : armOk w = true) :
    w.p1.toNat ≤ 5 ∧ (w.p1 = 5 → 2 ≤ w.p2.toNat ∧ w.p2.toNat ≤ 16) ∧
      (w.p1 ≠ 0 → 1 ≤ w.p3.toNat ∧ w.p3.toNat ≤ 3) := by
  unfold armOk at ok
  have five (h : w.p1 = 5) : w.p1.toNat = 5 := by rw [h]; rfl
  split at ok
  · cases ok
  · next template =>
    have code : 0 = w.p1.toNat := template_code_of_ofCode template
    exact ⟨by omega, fun h => by have := five h; omega,
      fun ne => absurd (BitVec.eq_of_toNat_eq code.symm) ne⟩
  · next template =>
    have code : 5 = w.p1.toNat := template_code_of_ofCode template
    simp only [Bool.and_eq_true, decide_eq_true_eq] at ok
    exact ⟨code.ge, fun _ => ok.1, fun _ => action_ofCode_range ok.2⟩
  · next t notNone notPolyline template =>
    have code := template_code_of_ofCode template
    have small : t.code ≤ 4 := by cases t <;> first | exact absurd rfl notPolyline | decide
    exact ⟨by omega, fun h => by have := five h; omega, fun _ => action_ofCode_range ok⟩

/-- A parameter out of range fails a check. -/
theorem paramsOk_of_badParameter {op : Command} {w : ParamBlock} (bad : badParameter op w) :
    paramsOk op w = false := by
  by_contra passes
  obtain ⟨channel, reserved, own⟩ := paramsOk_iff.mp (Bool.not_eq_false _ ▸ passes)
  obtain ⟨p0, p1, p2, p3⟩ := reservedOk_iff.mp reserved
  rcases bad with ⟨named, exceeds⟩ | ⟨used, ne⟩ | ⟨used, ne⟩ | ⟨used, ne⟩ | ⟨used, ne⟩ | ⟨rfl, out⟩ |
    ⟨rfl, out⟩ | ⟨rfl, out⟩ | ⟨rfl, out⟩ | ⟨rfl, out⟩ | ⟨named, set⟩ | ⟨rfl, out⟩
  · have names : namesChannel op = true := by fin_cases named <;> rfl
    exact absurd (chanOfByte_isSome (channel names)) (Nat.not_le.mpr exceeds)
  · exact ne (p0 used)
  · exact ne (p1 used)
  · exact ne (p2 used)
  · exact ne (p3 used)
  · have range : 1 ≤ w.p0.toNat ∧ w.p0.toNat ≤ 32 := by simpa [ownChecksOk] using own
    omega
  · have range : 1 ≤ w.p0.toNat ∧ w.p0.toNat ≤ 31 := by simpa [ownChecksOk] using own
    omega
  · have range : (1 ≤ w.p1.toNat ∧ w.p1.toNat ≤ 127) ∧ w.p2.toNat ≤ 127 := by
      simpa [ownChecksOk] using own
    omega
  · have range : w.p1.toNat ≤ 1 := by simpa [ownChecksOk] using own
    omega
  · have range : ((CrosshairForm.ofCode w.p0.toNat).isSome = true ∧ w.p1.toNat ≤ 1) ∧
        (Pattern.ofCode w.p2.toNat).isSome = true := by
      simpa [ownChecksOk] using own
    have form := crosshairForm_ofCode_le range.1.1
    have band := pattern_ofCode_le range.2
    omega
  · have events : w.eventsOk = true := by
      simp only [List.mem_cons, List.not_mem_nil, or_false] at named
      rcases named with rfl | rfl <;> exact own
    obtain ⟨low, mid⟩ := (eventsOk_iff w).mp events
    rcases set with set | set
    · exact Bool.noConfusion (low.symm.trans set)
    · exact Bool.noConfusion (mid.symm.trans set)
  · obtain ⟨template, target, action⟩ := armOk_range own
    rcases out with out | ⟨five, out⟩ | ⟨ne, out⟩
    · omega
    · have := target five
      omega
    · have := action ne
      omega

/-- Settles O5: a parameter out of range fails the check of the issue. -/
theorem badParametersRefused : Obligations.BadParametersRefused := by
  rintro p op w s ⟨due, ready, window⟩ role bad
  obtain ⟨body, row⟩ := exec_row p op
  have fails : paramsOk op (s.port p).window = false := by rw [window, paramsOk_of_badParameter bad]
  obtain ⟨t, run, frame, becomes⟩ := event_setPort due
    ((issue_param (op := op) (body := body) ready role fails).trans (refuse_accept_eq p .param s))
  exact ⟨t, by rw [row, run], becomes, frame⟩

end Sys2Proof.Machine
end

section
/-! The accesses of a port: the window, STATUS, DATA and CONTROL (R166, R168, R169, R173, R178, R179), and
the attention outputs (R189 to R191). -/
namespace Sys2Proof.Machine

/-! ## Bytes made of single bits -/

/-- The number whose bits are given, the lowest first. -/
def bitsValue : List Bool → Nat
  | [] => 0
  | b :: rest => bit b + 2 * bitsValue rest

theorem testBit_bitsValue : ∀ (l : List Bool) (i : Nat), (bitsValue l).testBit i = l.getD i false
  | [], i => by simp [bitsValue]
  | b :: rest, 0 => by
    cases b <;> simp [bitsValue, bit, Nat.testBit_zero, Nat.add_mod]
  | b :: rest, i + 1 => by
    rw [Nat.testBit_succ, List.getD_cons_succ, ← testBit_bitsValue rest i]
    congr 1
    cases b
    · simp [bitsValue, bit]
    · simp only [bitsValue, bit, if_true]
      omega

theorem getLsbD_wordOf_bitsValue {l : List Bool} (short : l.length ≤ 16) (i : Nat) :
    (wordOf (bitsValue l)).getLsbD i = l.getD i false := by
  rw [wordOf, BitVec.getLsbD_ofNat, testBit_bitsValue]
  by_cases small : i < 16
  · simp [small]
  · rw [List.getD_eq_default _ _ (by omega)]
    simp

/-! ## The window -/

theorem readPosition_of_ready {q q' : PortState} (ready : q'.state = .ready) (pos : ParamPos)
    (v : Byte) (window : q'.window = storePosition pos v q.window) (before : q.state = .ready) :
    q'.readPosition pos = v ∧ ∀ other, other ≠ pos → q'.readPosition other = q.readPosition other := by
  unfold PortState.readPosition
  rw [ready, before, window]
  refine ⟨by cases pos <;> rfl, fun other ne => ?_⟩
  cases other <;> cases pos <;> first | exact absurd rfl ne | rfl

theorem readPosition_outside_ready {q : PortState} (other : q.state ≠ .ready) (pos : ParamPos) :
    q.readPosition pos = 0 := if_neg other

theorem parameterWrite_answers (p : PortId) (pos : ParamPos) (v : Byte) {s : State} (due : NothingDue s) :
    ∃ t, exec (.parameterWrite p pos v) s = .next t ∧ t = { s with ports := t.ports } ∧
      ((s.port p).state = .ready →
        PortsBecome p { s.port p with window := (t.port p).window } id s t ∧
        (t.port p).readPosition pos = v ∧
        ∀ other, other ≠ pos → (t.port p).readPosition other = (s.port p).readPosition other) ∧
      ((s.port p).state ≠ .ready →
        PortsBecome p { s.port p with collide := true } id s t ∧
        ∀ other, (t.port p).readPosition other = 0) := by
  by_cases ready : (s.port p).state = .ready
  · obtain ⟨t, run, frame, becomes⟩ := event_setPort (f := bodyOf (.parameterWrite p pos v)) due
      (if_pos ready)
    have window : (t.port p).window = storePosition pos v (s.port p).window := by rw [becomes.1]
    have state : (t.port p).state = .ready := by rw [becomes.1]; exact ready
    refine ⟨t, run, frame, fun _ => ⟨?_, readPosition_of_ready state pos v window ready⟩,
      fun other => absurd ready other⟩
    rw [window]
    exact becomes
  · obtain ⟨t, run, frame, becomes⟩ := event_setPort (f := bodyOf (.parameterWrite p pos v)) due
      (if_neg ready)
    have state : (t.port p).state ≠ .ready := by rw [becomes.1]; exact ready
    exact ⟨t, run, frame, fun now => absurd now ready,
      fun _ => ⟨becomes, fun other => readPosition_outside_ready state other⟩⟩

/-! ## STATUS and the reads by address -/

theorem statusByte_eq (q : PortState) : statusByte q = bitsValue
    [decide (q.state = .ready), decide (q.state ∈ [.busy, .dataIn, .dataOut, .resetHeld]), q.dreq, q.done,
      decide (q.fault ≠ .none), q.collide, decide (q.attn = .on)] := by
  have other : decide (q.state ∈ [PortMode.busy, .dataIn, .dataOut, .resetHeld]) =
      (q.state != .ready) := by cases q.state <;> rfl
  have fault : decide (q.fault ≠ .none) = (q.fault != .none) := by cases q.fault <;> rfl
  have ready : decide (q.state = .ready) = (q.state == .ready) := by cases q.state <;> rfl
  have attn : decide (q.attn = .on) = (q.attn == .on) := by cases q.attn <;> rfl
  rw [other, fault, ready, attn]
  simp only [statusByte, bitsValue]
  omega

theorem statusRead_answers (p : PortId) {s : State} (due : NothingDue s) :
    ∃ t, exec (.statusRead p) s = .next t ∧ t = { s with ports := t.ports } ∧
      PortsBecome p { s.port p with done := false, readData := (t.port p).readData } id s t ∧
      ∀ i, (t.port p).readData.getLsbD i =
        [decide ((s.port p).state = .ready),
          decide ((s.port p).state ∈ [.busy, .dataIn, .dataOut, .resetHeld]),
          (s.port p).dreq, (s.port p).done, decide ((s.port p).fault ≠ .none), (s.port p).collide,
          decide ((s.port p).attn = .on)].getD i false := by
  obtain ⟨t, run, frame, becomes⟩ := event_setPort (f := bodyOf (.statusRead p)) due rfl
  have data : (t.port p).readData = wordOf (statusByte (s.port p)) := by rw [becomes.1]
  refine ⟨t, run, frame, ?_, fun i => ?_⟩
  · rw [data]
    exact becomes
  · rw [data, statusByte_eq]
    exact getLsbD_wordOf_bitsValue (by simp) i

theorem writeAccess_control (p : PortId) (lines : Word) (s : State) {i : Instr}
    (row : i ∈ [Instr.portSoftReset p (lines.setWidth 8), .softResetRelease p (lines.setWidth 8),
      .commandAttentionEnable p (lines.setWidth 8), .attentionMode p (lines.setWidth 8)]) :
    writeAccess p 6 lines s = exec i s := by
  have alike : exec i s = event (writeControl p (lines.setWidth 8)) s := by
    simp only [List.mem_cons, List.not_mem_nil, or_false] at row
    rcases row with rfl | rfl | rfl | rfl <;> rfl
  rw [alike]
  show exec (controlRow p (lines.setWidth 8)) s = _
  unfold controlRow
  split <;> rfl

theorem address_cases : ∀ address : BitVec 3, address = 0 ∨ address = 1 ∨ address = 2 ∨ address = 3 ∨
    address = 4 ∨ address = 5 ∨ address = 6 ∨ address = 7 := by decide

theorem readFault_setWidth (q : PortState) :
    q.readFault.setWidth 16 = BitVec.ofNat 16 (faultsByCode.idxOf q.fault) := by
  unfold PortState.readFault
  cases q.fault <;> rfl

/-- The read of a position of the window by its address. -/
theorem readAccess_window {p : PortId} {address : BitVec 3} {pos : ParamPos} {v : Byte} {s : State}
    (due : NothingDue s)
    (reads : readAccess p address s = readBytePosition p (·.readPosition pos) s)
    (window : address ≠ 6)
    (holds : (s.port p).state = .ready → (s.port p).readPosition pos = v) :
    ∃ t, readAccess p address s = .next t ∧ t = { s with ports := t.ports } ∧
      PortsBecome p { s.port p with readData := (t.port p).readData } id s t ∧
      (address = 6 → (t.port p).readData = BitVec.ofNat 16 (faultsByCode.idxOf (s.port p).fault)) ∧
      (address ≠ 6 → (s.port p).state ≠ .ready → (t.port p).readData = 0) ∧
      (address ≠ 6 → (s.port p).state = .ready → (t.port p).readData = v.setWidth 16) := by
  obtain ⟨t, run, frame, becomes⟩ := readBytePosition_next p (·.readPosition pos) due
  have data : (t.port p).readData = ((s.port p).readPosition pos).setWidth 16 := by rw [becomes.1]
  refine ⟨t, reads.trans run, frame, ?_, fun six => absurd six window, fun _ other => ?_,
    fun _ ready => ?_⟩
  · rw [data]
    exact becomes
  · rw [data, readPosition_outside_ready other]
    rfl
  · rw [data, holds ready]

/-- Settles O6: a position holds what is written in READY, STATUS shows its seven bits, and the addresses
name the rows. -/
theorem windowAccessesStoreAndShow : Obligations.WindowAccessesStoreAndShow := by
  refine ⟨fun p pos v s due => parameterWrite_answers p pos v due, fun p s due => statusRead_answers p due,
    fun p lines s => ⟨rfl, rfl, rfl, rfl, rfl, rfl, fun i row => writeAccess_control p lines s row, rfl,
      rfl, rfl⟩, fun p address s due notStatus notData => ?_⟩
  rcases address_cases address with rfl | rfl | rfl | rfl | rfl | rfl | rfl | rfl
  · exact readAccess_window (pos := .param0) due rfl (by decide) fun ready => if_pos ready
  · exact readAccess_window (pos := .param1) due rfl (by decide) fun ready => if_pos ready
  · exact readAccess_window (pos := .param2) due rfl (by decide) fun ready => if_pos ready
  · exact readAccess_window (pos := .param3) due rfl (by decide) fun ready => if_pos ready
  · exact readAccess_window (pos := .count) due rfl (by decide) fun ready => if_pos ready
  · exact absurd rfl notStatus
  · obtain ⟨t, run, frame, becomes⟩ := readBytePosition_next p PortState.readFault due
    have data : (t.port p).readData = (s.port p).readFault.setWidth 16 := by rw [becomes.1]
    refine ⟨t, run, frame, ?_, fun _ => by rw [data, readFault_setWidth], fun ne => absurd rfl ne,
      fun ne => absurd rfl ne⟩
    rw [data]
    exact becomes
  · exact absurd rfl notData

/-! ## DATA -/

/-- Settles O7: a word within a record moves, and an access against the phase collides. -/
theorem dataAccessMovesWordOrCollides : Obligations.DataAccessMovesWordOrCollides := by
  refine ⟨fun p s c due own dreq => ⟨fun w phase within => ?_, fun w w' rest phase words => ?_⟩,
    fun p s due => ⟨fun w against => ?_, fun against => ?_⟩⟩
  · exact event_setPort (f := bodyOf (.dataWrite p w)) due
      ((if_pos ⟨phase, dreq⟩).trans (moveWordIn_within own within))
  · exact event_setPort (f := bodyOf (.dataRead p)) due
      ((if_pos ⟨phase, dreq⟩).trans (moveWordOut_within own words))
  · refine event_setPort (f := bodyOf (.dataWrite p w)) due (if_neg ?_)
    rintro ⟨phase, dreq⟩
    exact against.elim (fun ne => ne phase) fun off => Bool.noConfusion (off.symm.trans dreq)
  · refine event_setPort (f := bodyOf (.dataRead p)) due ((if_neg ?_).trans ?_)
    · rintro ⟨phase, dreq⟩
      exact against.elim (fun ne => ne phase) fun off => Bool.noConfusion (off.symm.trans dreq)
    · cases p <;> rfl

/-! ## CONTROL -/

theorem startBuild_eq (s : State) : startBuild s = { s with overlay := (startBuild s).overlay } := by
  unfold startBuild
  dsimp only
  split
  · rfl
  · split <;> rfl

theorem releasePin_eq (s : State) : releasePin s = { s with overlay := (releasePin s).overlay } := by
  unfold releasePin
  split
  · exact startBuild_eq _
  · rfl

theorem releaseFor_eq (op : Command) (s : State) :
    releaseFor op s = { s with overlay := (releaseFor op s).overlay } := by
  unfold releaseFor
  split
  · exact releasePin_eq s
  · rfl

theorem releaseFor_of_ne {op : Command} (s : State) (other : op ≠ .fetchOverlay) :
    releaseFor op s = s := by
  cases op
  case fetchOverlay => exact absurd rfl other
  all_goals rfl

/-- What a soft reset does outside its port (R38, R148). -/
structure Abandons (p : PortId) (s t : State) : Prop where
  rest : t = { s with stc := t.stc, overlay := t.overlay }
  stc : t.stc = { s.stc with queue := t.stc.queue, batch := t.stc.batch }
  queue : t.stc.queue.map EditItem.kind = s.stc.queue.map EditItem.kind
  batch : t.stc.batch.map EditItem.kind = s.stc.batch.map EditItem.kind
  owners : ∀ c, (s.port p).cmd = some c → isTableCommand c.op = true →
    ∀ i ∈ t.stc.queue ++ t.stc.batch, i.owner = .abandoned
  noTable : (∀ c, (s.port p).cmd = some c → isTableCommand c.op = false) → t.stc = s.stc
  fetch : ∀ c, (s.port p).cmd = some c → c.op = .fetchOverlay → t.overlay = (releasePin s).overlay
  noFetch : (∀ c, (s.port p).cmd = some c → c.op ≠ .fetchOverlay) → t.overlay = s.overlay

theorem kinds_orphans (l : List EditItem) : (l.map orphan).map EditItem.kind = l.map EditItem.kind := by
  rw [List.map_map]
  rfl

theorem abandon_abandons (p : PortId) (s : State) : Abandons p s (abandon p s) := by
  unfold abandon
  split
  case h_1 none =>
    exact ⟨rfl, rfl, rfl, rfl, fun c own => by simp [none] at own, fun _ => rfl,
      fun c own => by simp [none] at own, fun _ => rfl⟩
  case h_2 c own =>
    have same {d : Progress} (h : (s.port p).cmd = some d) : d = c :=
      Option.some.inj (h.symm.trans own)
    split
    case isTrue table =>
      refine ⟨rfl, rfl, kinds_orphans _, kinds_orphans _, fun d _ _ i mem => ?_, fun none => ?_,
        fun d h fetch => ?_, fun _ => rfl⟩
      · obtain ⟨j, -, rfl⟩ := List.mem_map.mp (List.map_append ▸ mem)
        rfl
      · rw [none c own] at table
        cases table
      · rw [← same h, fetch] at table
        cases table
    case isFalse other =>
      have stc : (releaseFor c.op s).stc = s.stc := (releaseFor_frame c.op s).2.2.1
      refine ⟨?_, by rw [stc], by rw [stc], by rw [stc], fun d h table => ?_, fun _ => stc,
        fun d h fetch => ?_, fun none => ?_⟩
      · rw [stc]
        exact releaseFor_eq c.op s
      · exact absurd (same h ▸ table) other
      · rw [← same h, fetch]
        rfl
      · rw [releaseFor_of_ne s (none c own)]

theorem withPickAvailable_zero (raw : Bool) :
    withPickAvailable raw 0 = if raw = true then Event.pickAvailable.toSet else 0 := by
  cases raw <;> rfl

/-- Settles O8: the port is held as R179 has it, and the command's items and pin are abandoned. -/
theorem softResetAbandonsCommand : Obligations.SoftResetAbandonsCommand := by
  intro p v s due resets notHeld running
  have notStarting : ¬ inStartUp (s.port p) = true := by simpa [inStartUp] using running
  have abandons := abandon_abandons p s
  have effect : bodyOf (.portSoftReset p v) s = (abandon p s).updPort p (heldPort s.pickRaw v) :=
    (if_neg notStarting).trans ((if_pos resets).trans (if_neg notHeld))
  obtain ⟨t, run, frame, becomes⟩ := event_port (q := heldPort s.pickRaw v (s.port p)) due effect
    (by rw [port_updPort_same, abandon_port])
    (by rw [port_updPort_other _ _ _ _ (otherPort_ne p), abandon_port])
  have stc : t.stc = (abandon p s).stc := by rw [frame]; rfl
  have overlay : t.overlay = (abandon p s).overlay := by rw [frame]; rfl
  refine ⟨t, run, ?_, ?_, ?_⟩
  · rw [stc, overlay]
    refine frame.trans ?_
    show { abandon p s with ports := t.ports } = _
    rw [abandons.rest]
  · rw [← withPickAvailable_zero]
    exact becomes
  · rw [stc, overlay]
    exact ⟨abandons.stc, abandons.queue, abandons.batch, abandons.owners, abandons.noTable,
      abandons.fetch, abandons.noFetch⟩

/-- Settles O9: the other writes of CONTROL, by the branches of R178. -/
theorem controlWriteTakesFields : Obligations.ControlWriteTakesFields := by
  intro p v i s due row q written
  have alike : exec i s = event (writeControl p v) s := by
    simp only [List.mem_cons, List.not_mem_nil, or_false] at row
    rcases row with rfl | rfl | rfl | rfl <;> rfl
  have starting : inStartUp (s.port p) = true ↔ (s.port p).state = .busy ∧ (s.port p).cmd = none := by
    simp [inStartUp]
  have effect : writeControl p v s = s.setPort p q := by
    unfold writeControl
    dsimp only
    rcases written with ⟨busy, none, rfl⟩ | ⟨held, resets, rfl⟩ | ⟨held, releases, rfl⟩ |
      ⟨notHeld, running, writes, rfl⟩
    · rw [if_pos (starting.mpr ⟨busy, none⟩)]
      rfl
    · rw [if_neg (by simp [starting, held]), if_pos (show resetField v = true from resets), if_pos held]
      rfl
    · rw [if_neg (by simp [starting, held]), show resetField v = false from releases, if_neg
        Bool.noConfusion, if_pos held]
      rfl
    · rw [if_neg (starting.not.mpr running), show resetField v = false from writes, if_neg
        Bool.noConfusion, if_neg notHeld]
      rfl
  obtain ⟨t, run, frame, becomes⟩ := event_setPort due effect
  exact ⟨t, alike.trans run, becomes, frame⟩

/-! ## Attention -/

theorem exists_getLsbD_iff {w : Nat} {x : BitVec w} : (∃ i, x.getLsbD i = true) ↔ x ≠ 0 := by
  constructor
  · rintro ⟨i, set⟩ rfl
    exact Bool.noConfusion (BitVec.getLsbD_zero.symm.trans set)
  · intro ne
    by_contra none
    refine ne (BitVec.eq_of_getLsbD_eq fun i _ => ?_)
    rw [Bool.eq_false_iff.mpr fun set => none ⟨i, set⟩]
    exact BitVec.getLsbD_zero.symm

theorem exists_ground_iff (q : PortState) : (∃ g, ground q g = true) ↔ anyGround q = true := by
  have events : (∃ i, ground q (some i) = true) ↔ (eventGrounds q != 0) = true := by
    rw [bne_iff_ne, ← exists_getLsbD_iff]
    simp only [ground, eventGrounds, BitVec.getLsbD_and]
  rw [Option.exists, events, anyGround, Bool.or_eq_true]
  rfl

theorem anyGround_eq_false_iff (q : PortState) : anyGround q = false ↔ ∀ g, ground q g = false := by
  rw [← Bool.not_eq_true, ← exists_ground_iff]
  simp

theorem groundRemoved_iff (old new : PortState) : groundRemoved old new = true ↔
    ∃ g, ground old g = true ∧ ground new g = false := by
  have events : (∃ i, ground old (some i) = true ∧ ground new (some i) = false) ↔
      ((eventGrounds old &&& ~~~eventGrounds new) != 0) = true := by
    rw [bne_iff_ne, ← exists_getLsbD_iff]
    refine exists_congr fun i => ?_
    simp only [ground, eventGrounds, BitVec.getLsbD_and, BitVec.getLsbD_not]
    by_cases small : i < 24
    · have bits : ∀ a b c d : Bool, ((a && b) = true ∧ (c && d) = false) ↔
          ((a && b) && (true && !(c && d))) = true := by decide
      rw [decide_eq_true small]
      exact bits _ _ _ _
    · simp [BitVec.getLsbD_of_ge _ _ (Nat.not_lt.mp small)]
  rw [Option.exists, events, groundRemoved, Bool.or_eq_true, Bool.and_eq_true, Bool.not_eq_true']
  rfl

theorem nextAttn_of_no_ground {old new : PortState} (none : ∀ g, ground new g = false) :
    nextAttn old new = .off := (nextAttn_eq_off_iff old new).mpr ((anyGround_eq_false_iff new).mpr none)

theorem nextAttn_level {old new : PortState} (level : new.mode = .level ∨ old.mode = .level)
    (grounds : anyGround new = true) : nextAttn old new = .on := by
  have follows : new.mode = .level ∨ old.mode ≠ new.mode := by
    rcases level with level | level
    · exact .inl level
    · by_cases same : new.mode = .level
      · exact .inl same
      · exact .inr fun eq => same (eq ▸ level)
  unfold nextAttn
  rw [if_pos follows, if_pos grounds]

theorem nextAttn_edge {old new : PortState} (edge : new.mode = .edge) (before : old.mode = .edge)
    (grounds : anyGround new = true) :
    (new.attn = .off → nextAttn old new = .on) ∧ (new.attn = .pulsing → nextAttn old new = .pulsing) ∧
      (new.attn = .on → nextAttn old new = if groundRemoved old new then .pulsing else .on) := by
  have stays : ¬ (new.mode = .level ∨ old.mode ≠ new.mode) := by simp [edge, before]
  unfold nextAttn
  rw [if_neg stays, grounds]
  refine ⟨fun attn => ?_, fun attn => ?_, fun attn => ?_⟩ <;> simp [attn]

theorem groundRemoved_eq_false {old new : PortState}
    (kept : ∀ g, ground old g = true → ground new g = true) : groundRemoved old new = false := by
  rw [← Bool.not_eq_true, groundRemoved_iff]
  rintro ⟨g, held, lost⟩
  exact Bool.noConfusion (lost.symm.trans (kept g held))

/-- The output at the end of the 2 µs (R190): the grounds are those that stood before. -/
theorem nextAttn_endPulse {q : PortState} (pulsing : q.attn = .pulsing) :
    nextAttn q (endPulse q) = if anyGround q then .on else .off := by
  have ended : endPulse q = { q with attn := if anyGround q then .on else .off } := if_pos pulsing
  rw [ended]
  by_cases grounds : anyGround q = true
  · rw [if_pos grounds]
    rcases (by cases q.mode <;> simp : q.mode = .level ∨ q.mode = .edge) with mode | mode
    · exact nextAttn_level (.inr mode) grounds
    · obtain ⟨-, -, on⟩ := nextAttn_edge (new := { q with attn := .on }) mode mode grounds
      have same : groundRemoved q { q with attn := .on } = false :=
        groundRemoved_eq_false fun _ held => held
      rw [on rfl, same]
      rfl
  · rw [if_neg grounds]
    exact (nextAttn_eq_off_iff _ _).mpr (Bool.not_eq_true _ ▸ grounds)

theorem toSet_getLsbD (e : Event) (i : Nat) : e.toSet.getLsbD i = (i == e.pos) := by
  have small : e.pos < 24 := by
    cases e with
    | hitChanged c | stageChanged c | seqError c | windowNear c | windowExit c | channelState c
      | pressDiscarded c => cases c <;> decide
    | _ => decide
  rw [Event.toSet, BitVec.getLsbD_shiftLeft, BitVec.getLsbD_one]
  rcases lt_trichotomy i e.pos with below | same | above
  · simp [below, below.ne]
  · simp [same, small]
  · have apart : i - e.pos ≠ 0 := Nat.sub_ne_zero_of_lt above
    simp [above.ne', apart]

/-- Settles O10: the outputs follow the grounds, and a raise latches its event alone. -/
theorem attentionFollowsGrounds : Obligations.AttentionFollowsGrounds := by
  refine ⟨fun old new => ⟨nextAttn_of_no_ground, fun grounds => ?_⟩, fun p s due pulsing => ?_,
    fun old new => ⟨_, rfl, rfl, fun p => by cases p <;> rfl⟩,
    fun e s => ⟨_, rfl, rfl, rfl, rfl, fun p => ?_⟩⟩
  · have any := (exists_ground_iff new).mp grounds
    refine ⟨fun level => nextAttn_level level any, fun edge before => ?_⟩
    obtain ⟨off, pulsing, on⟩ := nextAttn_edge edge before any
    refine ⟨off, pulsing, fun attn removed => ?_, fun attn kept => ?_⟩
    · rw [on attn, (groundRemoved_iff old new).mpr removed]
      rfl
    · rw [on attn, groundRemoved_eq_false kept]
      rfl
  · obtain ⟨t, run, frame, own, other⟩ := event_setPort (f := bodyOf (.pulseEnd p)) due rfl
    have attn : (t.port p).attn = if anyGround (s.port p) then .on else .off := by
      rw [own]
      exact nextAttn_endPulse pulsing
    have keeps (q : PortState) (x : AttnOut) : { endPulse q with attn := x } = { q with attn := x } := by
      unfold endPulse
      split <;> rfl
    refine ⟨t, run, frame, ?_, ?_, ?_, other⟩
    · rw [own]
      exact keeps _ _
    · rw [attn, exists_ground_iff]
      cases anyGround (s.port p) <;> simp
    · rw [attn, ← anyGround_eq_false_iff]
      cases anyGround (s.port p) <;> simp
  · rw [port_raise]
    refine ⟨rfl, fun i => ?_⟩
    rw [← toSet_getLsbD]
    exact BitVec.getLsbD_or

end Sys2Proof.Machine
end

section
/-! Commands at their acceptance: data phases, settings, and the commands that read one record (R34 to R37,
R81, R85, R117, R130, R158, R173 to R176, R182, R188). -/
namespace Sys2Proof.Machine

/-! ## The opening of a data phase -/

/-- The acceptance of a table command with a data phase. -/
theorem startDataIn_accept_table {op : Command} (i : ParamBlock) (n : Nat) (s : State)
    (table : isTableCommand op = true) :
    startDataIn .a op i n (accept .a s) =
      s.setPort .a (tablePhase (s.port .a) (.start op i n []) s.stc.queue.length) := by
  have queued : ((accept .a s).updPort .a fun q =>
      { q with state := .dataIn, cmd := some (.start op i n []) }).stc.queue = s.stc.queue := rfl
  rw [startDataIn, openRecord_eq (c := .start op i n []) (by rw [port_updPort_same]),
    withholds_table (by exact table), queued, Bool.not_not]
  unfold tablePhase
  split
  · next room =>
    rw [decide_eq_true room]
    rfl
  · next full =>
    rw [decide_eq_false full]
    rfl

theorem startDataIn_accept {p : PortId} {op : Command} (i : ParamBlock) (n : Nat) (s : State)
    (other : isTableCommand op = false) :
    startDataIn p op i n (accept p s) =
      s.setPort p (openedPort (s.port p) .dataIn (.start op i n [])) := by
  rw [startDataIn_eq p i n _ other]
  cases p <;> rfl

theorem startDataOut_accept {p : PortId} {op : Command} (i : ParamBlock) (n : Nat) (w : List Word)
    (s : State) (other : isTableCommand op = false) :
    startDataOut p op i n w (accept p s) =
      s.setPort p (openedPort (s.port p) .dataOut (.start op i n w)) := by
  rw [startDataOut_eq p i n w _ other]
  cases p <;> rfl

/-- An accepted command whose body changes its port alone. -/
theorem issue_setPort {p : PortId} {op : Command} {w : ParamBlock} {q : PortState}
    {body : ParamBlock → State → State} {s : State} (ready : Ready p w s)
    (effect : body w (accept p s) = s.setPort p q) (role : inRole op p = true := by rfl)
    (ok : paramsOk op w = true := by rfl) :
    ∃ t, event (issue p op body) s = .next t ∧ t = { s with ports := t.ports } ∧
      PortsBecome p q id s t :=
  event_setPort ready.1 ((issue_of_ready ready role ok).trans effect)

theorem clearTable_answers {s : State} {n : Byte} (ready : Ready .a ⟨0, 0, 0, 0, n⟩ s) :
    ∃ t, exec (.clearTable .a) s = .next t ∧ t = { s with ports := t.ports, stc := t.stc } ∧
      t.stc = (if s.stc.queue.length < 16 then withItem .clear s.stc else s.stc) ∧
      PortsBecome .a { s.port .a with
        state := .busy, done := false, fault := .none, collide := false,
        cmd := some { Progress.start .clearTable ⟨0, 0, 0, 0, n⟩ 0 [] with
          clearWaiting := decide (16 ≤ s.stc.queue.length) } } id s t := by
  by_cases room : s.stc.queue.length < 16
  · have effect : bodyOf (.clearTable .a) s = joinItem .clear ((accept .a s).updPort .a fun q =>
        { q with state := .busy, cmd := some (.start .clearTable ⟨0, 0, 0, 0, n⟩ 0 []) }) :=
      (issue_of_ready ready rfl rfl).trans (if_pos room)
    rw [decide_eq_false (Nat.not_le.mpr room), if_pos room]
    obtain ⟨t, run, frame, becomes⟩ := event_port (p := .a) ready.1 effect rfl rfl
    have stc : t.stc = withItem .clear s.stc := by rw [frame]; rfl
    exact ⟨t, run, by rw [stc]; exact frame, stc, becomes⟩
  · have effect : bodyOf (.clearTable .a) s = s.setPort .a { s.port .a with
        state := .busy, done := false, fault := .none, collide := false,
        cmd := some { Progress.start .clearTable ⟨0, 0, 0, 0, n⟩ 0 [] with clearWaiting := true } } :=
      (issue_of_ready ready rfl rfl).trans (if_neg room)
    rw [decide_eq_true (Nat.not_lt.mp room), if_neg room]
    obtain ⟨t, run, frame, becomes⟩ := event_setPort ready.1 effect
    have stc : t.stc = s.stc := by rw [frame]
    exact ⟨t, run, by rw [stc]; exact frame, stc, becomes⟩

/-- Settles O11: each acceptance opens its phase, and CLEAR TABLE's item joins or waits. -/
theorem recordAndClearCommandsOpen : Obligations.RecordAndClearCommandsOpen := by
  refine ⟨fun s n c => ⟨fun ready => ?_, fun ready => ?_, fun ready => ?_, fun ready => ?_, fun ready => ?_,
    fun ready => ?_⟩, fun s n ready => clearTable_answers ready⟩
  · exact issue_setPort ready (startDataIn_accept_table _ _ s rfl)
  · exact issue_setPort ready (startDataIn_accept_table _ _ s rfl)
  · exact issue_setPort ready (startDataIn_accept_table _ _ s rfl) rfl (by cases c <;> rfl)
  · exact issue_setPort ready (startDataIn_accept _ _ s rfl)
  · exact issue_setPort ready (startDataIn_accept _ _ s rfl) rfl (by cases c <;> rfl)
  · exact issue_setPort ready (startDataIn_accept _ _ s rfl)

/-! ## The data-phase timeout -/

section
variable {c : Progress} {s : State}

theorem timeoutOutputs_setView (op : c.op = .setView) : timeoutOutputs c s = ⟨s.view.gen, 0, 0, 0, 1⟩ := by
  unfold timeoutOutputs
  rw [op]
  rfl

theorem timeoutOutputs_readPicks (op : c.op = .readPicks) :
    timeoutOutputs c s = pickOutputs c.moved s.picks.records.length (c.total - c.moved) := by
  unfold timeoutOutputs
  rw [op]
  rfl

theorem timeoutOutputs_other (notView : c.op ≠ .setView) (notPicks : c.op ≠ .readPicks)
    (notFetch : c.op ≠ .fetchOverlay) : timeoutOutputs c s = ⟨0, 0, 0, 0, 1⟩ := by
  unfold timeoutOutputs
  split
  · next op => exact absurd op notView
  · next op => exact absurd op notPicks
  · next op => exact absurd op notFetch
  · rfl

end

/-- Settles O12: a timeout completes the command with its outputs, or leaves a table command waiting. -/
theorem timeoutEndsDataPhase : Obligations.TimeoutEndsDataPhase := by
  refine fun s c due => ⟨fun p own dreq other notFetch => ?_, fun own dreq table => ?_,
    showsTable_tableOutputs _, showsPicks_pickOutputs _ _ _⟩
  · have effect : bodyOf (.dataPhaseTimeout p) s =
        complete p (timeoutOutputs c s) .timeout s := by
      refine (if_pos dreq).trans ?_
      unfold timeOut
      rw [own]
      dsimp only
      rw [other, if_neg Bool.noConfusion, releaseFor_of_ne s notFetch]
    obtain ⟨t, run, frame, becomes⟩ := event_setPort (q := completedPort (s.port p) (timeoutOutputs c s)
      .timeout) due effect
    refine ⟨t, run, frame, ?_⟩
    split
    · next op => rwa [timeoutOutputs_setView op] at becomes
    · next op => rwa [timeoutOutputs_readPicks op] at becomes
    · next notView notPicks => rwa [timeoutOutputs_other notView notPicks notFetch] at becomes
  · have effect : bodyOf (.dataPhaseTimeout .a) s = endTablePhase .timeout s := by
      refine (if_pos dreq).trans ?_
      unfold timeOut
      rw [own]
      exact if_pos table
    by_cases waits : awaitsItems c s
    · obtain ⟨t, run, frame, becomes⟩ := event_setPort due (effect.trans (endTablePhase_waits own waits))
      exact ⟨t, run, frame, fun _ => becomes, fun none => absurd waits none⟩
    · obtain ⟨t, run, frame, becomes⟩ :=
        event_setPort due (effect.trans (endTablePhase_completes own table waits))
      exact ⟨t, run, frame, fun some => absurd some waits, fun _ => becomes⟩

/-! ## Commands that replace a setting -/

/-- An accepted command, by what its body makes of its port and of the rest. -/
theorem issue_becomes {p : PortId} {op : Command} {w : ParamBlock} {q : PortState}
    {body : ParamBlock → State → State} {s u : State} (ready : Ready p w s)
    (effect : body w (accept p s) = u) (own : u.port p = q)
    (other : u.port (otherPort p) = s.port (otherPort p)) (role : inRole op p = true)
    (ok : paramsOk op w = true) :
    ∃ t, event (issue p op body) s = .next t ∧ t = { u with ports := t.ports } ∧
      PortsBecome p q id s t :=
  event_port ready.1 ((issue_of_ready ready role ok).trans effect) own other

theorem byte_eq_of_le_one {b : Byte} (small : b.toNat ≤ 1) : b = 0 ∨ b = 1 := by
  rcases Nat.le_one_iff_eq_zero_or_eq_one.mp small with zero | one
  · exact .inl (BitVec.eq_of_toNat_eq zero)
  · exact .inr (BitVec.eq_of_toNat_eq one)

theorem restartTimer_restInterval (v : Byte) (t : RestTimer) :
    restartTimer (restInterval v) t =
      if t = .stopped then .stopped else .running (if v = 0 then 600 else 4 * v.toNat) := by
  cases t
  · rfl
  · simp only [restartTimer, restInterval, reduceCtorEq, if_false, Nat.mul_comm 4]

theorem setRest_answers {s : State} {n v : Byte} (ready : Ready .a ⟨v, 0, 0, 0, n⟩ s) :
    ∃ t, exec (.setRest .a) s = .next t ∧ t = { s with ports := t.ports, rest := v, chans := t.chans } ∧
      PortsBecome .a (servedPort (s.port .a) .zero .none) id s t ∧
      ∀ c, t.chan c = { s.chan c with timer :=
        (if (s.chan c).timer = .stopped then RestTimer.stopped
         else RestTimer.running (if v = 0 then 600 else 4 * v.toNat)) } := by
  obtain ⟨t, run, frame, becomes⟩ := issue_becomes (op := .setRest)
    (body := fun i t => acceptRest .a i t) ready rfl rfl rfl rfl rfl
  refine ⟨t, run, by rw [frame]; rfl, becomes, fun c => ?_⟩
  rw [frame, ← restartTimer_restInterval]
  exact acceptRest_chan .a _ (accept .a s) c

theorem setPickThreshold_answers {s : State} {n v : Byte} (ready : Ready .a ⟨v, 0, 0, 0, n⟩ s)
    (low : 1 ≤ v.toNat) (high : v.toNat ≤ 31) :
    ∃ t, exec (.setPickThreshold .a) s = .next t ∧
      t = { s with ports := t.ports, picks := { s.picks with threshold := t.picks.threshold } } ∧
      PortsBecome .a
        (servedPort (s.port .a) ⟨lowByte s.picks.records.length, 0, 0, 0, 0⟩ .none) id s t ∧
      t.picks.threshold.toNat = v.toNat := by
  have ok : paramsOk .setPickThreshold ⟨v, 0, 0, 0, n⟩ = true := by
    simp [paramsOk_iff, reservedOk_iff, namesChannel, usedParams, ownChecksOk, low, high]
  obtain ⟨t, run, frame, becomes⟩ := issue_becomes (op := .setPickThreshold)
    (body := fun i t => acceptThreshold .a i t) ready rfl rfl rfl rfl ok
  have threshold : t.picks.threshold = BitVec.ofNat 5 v.toNat := by rw [frame]; rfl
  refine ⟨t, run, by rw [threshold]; exact frame, becomes, ?_⟩
  rw [threshold, BitVec.toNat_ofNat, Nat.mod_eq_of_lt (by omega)]

theorem setStation_answers {s : State} {n a m : Byte} {c : Chan} (ready : Ready .a ⟨chanByte c, a, m, 0, n⟩ s)
    (low : 1 ≤ a.toNat) (high : a.toNat ≤ 127) (mask : m.toNat ≤ 127) :
    ∃ t, exec (.setStation .a) s = .next t ∧
      t = { s with ports := t.ports, link := { s.link with stations := t.link.stations } } ∧
      PortsBecome .a (servedPort (s.port .a) .zero .none) id s t ∧
      (t.link.stations.get c).address.toNat = a.toNat ∧
      (t.link.stations.get c).mask.toNat = m.toNat ∧
      t.link.stations.get (otherChan c) = s.link.stations.get (otherChan c) := by
  have ok : paramsOk .setStation ⟨chanByte c, a, m, 0, n⟩ = true := by
    simp [paramsOk_iff, reservedOk_iff, usedParams, ownChecksOk, chanOfByte_chanByte, low, high, mask]
  obtain ⟨t, run, frame, becomes⟩ := issue_becomes (op := .setStation)
    (body := fun i t => withChannel i (acceptStation .a i) t) ready
    (withChannel_chanByte _ c _ _ rfl) rfl rfl rfl ok
  have stations : t.link.stations = s.link.stations.set c
      { address := BitVec.ofNat 7 a.toNat, mask := BitVec.ofNat 7 m.toNat } := by rw [frame]; rfl
  have small {k : Nat} (h : k ≤ 127) : (BitVec.ofNat 7 k).toNat = k := by
    rw [BitVec.toNat_ofNat, Nat.mod_eq_of_lt (by omega)]
  refine ⟨t, run, by rw [stations]; exact frame, becomes, ?_⟩
  rw [stations]
  cases c <;> exact ⟨small high, small mask, rfl⟩

theorem setStyle_answers {s : State} {n f k b : Byte} (ready : Ready .b ⟨f, k, b, 0, n⟩ s)
    (form : f.toNat ≤ 1) (ticks : k.toNat ≤ 1) (band : b.toNat ≤ 1) :
    ∃ t, exec (.setStyle .b) s = .next t ∧
      t = { s with ports := t.ports, overlay := { s.overlay with style :=
        { form := if f = 0 then .full else .arms, ticks := decide (k = 1),
          band := if b = 0 then .solid else .dashed } } } ∧
      PortsBecome .b (servedPort (s.port .b) .zero .none) id s t := by
  have ok : paramsOk .setStyle ⟨f, k, b, 0, n⟩ = true := by
    rcases byte_eq_of_le_one form with rfl | rfl <;> rcases byte_eq_of_le_one ticks with rfl | rfl <;>
      rcases byte_eq_of_le_one band with rfl | rfl <;> rfl
  have style : styleOf ⟨f, k, b, 0, n⟩ =
      { form := if f = 0 then .full else .arms, ticks := decide (k = 1),
        band := if b = 0 then .solid else .dashed } := by
    rcases byte_eq_of_le_one form with rfl | rfl <;> rcases byte_eq_of_le_one ticks with rfl | rfl <;>
      rcases byte_eq_of_le_one band with rfl | rfl <;> rfl
  obtain ⟨t, run, frame, becomes⟩ := issue_becomes (op := .setStyle)
    (body := fun i t => complete .b .zero .none { t with overlay := { t.overlay with style := styleOf i } })
    ready rfl rfl rfl rfl ok
  refine ⟨t, run, ?_, becomes⟩
  rw [← style]
  exact frame

theorem setBurst_answers {p : PortId} {s : State} {n v : Byte} (ready : Ready p ⟨v, 0, 0, 0, n⟩ s)
    (low : 1 ≤ v.toNat) (high : v.toNat ≤ 32) :
    ∃ t, exec (.setBurst p) s = .next t ∧ t = { s with ports := t.ports } ∧
      PortsBecome p { servedPort (s.port p) .zero .none with burst := (t.port p).burst } id s t ∧
      (t.port p).burst.toNat = v.toNat := by
  have ok : paramsOk .setBurst ⟨v, 0, 0, 0, n⟩ = true := by
    simp [paramsOk_iff, reservedOk_iff, namesChannel, usedParams, ownChecksOk, low, high]
  obtain ⟨t, run, frame, becomes⟩ := issue_setPort (op := .setBurst)
    (q := { servedPort (s.port p) .zero .none with burst := BitVec.ofNat 6 v.toNat })
    (body := fun i t =>
      complete p .zero .none (t.updPort p fun q => { q with burst := BitVec.ofNat 6 i.p0.toNat }))
    ready (by cases p <;> rfl) (by cases p <;> rfl) ok
  have burst : (t.port p).burst = BitVec.ofNat 6 v.toNat := by rw [becomes.1]
  refine ⟨t, run, frame, by rw [burst]; exact becomes, ?_⟩
  rw [burst, BitVec.toNat_ofNat, Nat.mod_eq_of_lt (by omega)]

theorem setEventMask_answers {p : PortId} {s : State} {n x y z : Byte} (ready : Ready p ⟨x, y, z, 0, n⟩ s)
    (low : x.getLsbD 7 = false) (mid : y.getLsbD 7 = false) :
    ∃ t, exec (.setEventMask p) s = .next t ∧ t = { s with ports := t.ports } ∧
      PortsBecome p { servedPort (s.port p) .zero .none with mask := z ++ y ++ x } id s t := by
  have ok : paramsOk .setEventMask ⟨x, y, z, 0, n⟩ = true :=
    paramsOk_iff.mpr ⟨Bool.noConfusion, by simp [reservedOk_iff, usedParams],
      (eventsOk_iff _).mpr ⟨low, mid⟩⟩
  rw [← events_eq ⟨x, y, z, 0, n⟩]
  exact issue_setPort (op := .setEventMask)
    (body := fun i t => complete p .zero .none (t.updPort p fun q => { q with mask := i.events }))
    ready (by cases p <;> rfl) (by cases p <;> rfl) ok

/-- Settles O13: each setting command replaces its setting and completes. -/
theorem settingCommandsReplace : Obligations.SettingCommandsReplace := fun _ _ =>
  ⟨fun _ ready => setRest_answers ready, fun _ ready low high => setPickThreshold_answers ready low high,
    fun _ _ _ ready low high mask => setStation_answers ready low high mask,
    fun _ _ _ ready form ticks band => setStyle_answers ready form ticks band,
    fun _ _ ready low high => setBurst_answers ready low high,
    fun _ _ _ _ ready low mid => setEventMask_answers ready low mid⟩

/-! ## Commands that read one record -/

/-- Settles O14: the record is laid out at acceptance, and its last word completes the command. -/
theorem oneRecordReads : Obligations.OneRecordReads := by
  refine fun p s n => ⟨fun c ready => ?_, fun ready => ?_, fun c w due phase dreq own op words => ?_⟩
  · rw [← cursorWords_eq]
    exact issue_setPort (op := .readCursor)
      (body := fun i t => withChannel i
        (fun c u => startDataOut p .readCursor i 1 (u.chan c).cursorWords u) t) ready
      ((withChannel_chanByte _ c _ _ rfl).trans (startDataOut_accept _ _ _ s rfl)) rfl
      (by cases c <;> rfl)
  · have effect := startDataOut_accept (p := p) (op := .identify) ⟨0, 0, 0, 0, n⟩ 1 (identityWords p) s rfl
    cases p
    · exact issue_setPort (op := .identify) ready effect
    · exact issue_setPort (op := .identify) ready effect
  · refine event_setPort (f := bodyOf (.dataRead p)) due
      ((if_pos ⟨phase, dreq⟩).trans ((moveWordOut_last own words).trans ?_))
    simp only [List.mem_cons, List.not_mem_nil, or_false] at op
    rcases op with op | op
    · rw [op]
      cases p <;> rfl
    · rw [op]
      cases p <;> rfl

end Sys2Proof.Machine
end

section
/-! The rows of the Snap Table Controller: records of the table commands, batches and start-up (R22 to R39). -/
namespace Sys2Proof.Machine

/-! ## The last word of a record -/

theorem parseEntry_length {l : List Word} {e : Entry} (h : parseEntry l = some e) : l.length = 7 := by
  unfold parseEntry at h
  split at h
  · rfl
  · cases h

theorem parseRemoval_length {l : List Word} {r : Word × Option SnapKind} (h : parseRemoval l = some r) :
    l.length = 2 := by
  unfold parseRemoval at h
  split at h
  · rfl
  · cases h

theorem parseWindow_length {l : List Word} {v : Window} (h : parseWindow l = some v) : l.length = 9 := by
  unfold parseWindow at h
  split at h
  · rfl
  · cases h

theorem record_whole {c : Progress} {w : Word} (length : (c.words ++ [w]).length = recordWords c.op) :
    recordWords c.op ≤ c.words.length + 1 := by
  rw [← length, List.length_append, List.length_singleton]

/-- Port A with the last word of a record in hand. -/
def wholeRecord (s : State) (c : Progress) (w : Word) : State :=
  s.setPort .a { s.port .a with
    dreq := false, burstAttn := false, cmd := some { c with words := c.words ++ [w] } }

section
variable {s : State} {c : Progress} {w : Word} (due : NothingDue s)
  (phase : (s.port .a).state = .dataIn) (dreq : (s.port .a).dreq = true)
  (own : (s.port .a).cmd = some c) (last : recordWords c.op ≤ c.words.length + 1)
include due phase dreq own last

omit due in
theorem bodyOf_dataWrite_last : bodyOf (.dataWrite .a w) s =
    takeRecord .a c (c.words ++ [w]) (wholeRecord s c w) :=
  (if_pos ⟨phase, dreq⟩).trans (moveWordIn_last own last)

/-- A record whose item joins the queue. -/
theorem record_stands {k : EditKind} {stc : TableController} (table : isTableCommand c.op = true)
    (queue : stc.queue = s.stc.queue)
    (taken : takeRecord .a c (c.words ++ [w]) (wholeRecord s c w) =
      recordStands (joinItem k { wholeRecord s c w with stc := stc })) :
    ∃ t, exec (.dataWrite .a w) s = .next t ∧ t = { s with ports := t.ports, stc := withItem k stc } ∧
      PortsBecome .a (standingPort { s.port .a with dreq := false, burstAttn := false } c
        (s.stc.queue.length + 1)) id s t := by
  have length : (joinItem k { wholeRecord s c w with stc := stc }).stc.queue.length =
      s.stc.queue.length + 1 := by
    simp only [joinItem, List.length_append, queue, List.length_singleton]
  have stands := recordStands_eq (s := joinItem k { wholeRecord s c w with stc := stc })
    (c := { c with words := c.words ++ [w] }) rfl table
    ⟨⟨k, .inProgress⟩, List.mem_append_right _ (List.mem_singleton_self _), rfl⟩
  have effect := (bodyOf_dataWrite_last (w := w) phase dreq own last).trans (taken.trans stands)
  rw [length] at effect
  exact event_port (p := .a) due effect rfl rfl

/-- A record that ends its command's data phase. -/
theorem record_ends {f : FaultCode} (table : isTableCommand c.op = true)
    (taken : takeRecord .a c (c.words ++ [w]) (wholeRecord s c w) =
      endTablePhase f (wholeRecord s c w)) :
    ∃ t, exec (.dataWrite .a w) s = .next t ∧ t = { s with ports := t.ports } ∧
      (awaitsItems c s → PortsBecome .a (waitingPort (s.port .a) c f) id s t) ∧
      (¬ awaitsItems c s → PortsBecome .a (completedPort (s.port .a)
        (tableOutputs { c with ended := f, words := [] }) f) id s t) := by
  have effect := (bodyOf_dataWrite_last (w := w) phase dreq own last).trans taken
  by_cases waits : awaitsItems c s
  · have ends := endTablePhase_waits (f := f) (s := wholeRecord s c w)
      (c := { c with words := c.words ++ [w] }) rfl waits
    obtain ⟨t, run, frame, becomes⟩ := event_port (p := .a) due (effect.trans ends) rfl rfl
    exact ⟨t, run, frame, fun _ => becomes, fun none => absurd waits none⟩
  · have ends := endTablePhase_completes (f := f) (s := wholeRecord s c w)
      (c := { c with words := c.words ++ [w] }) rfl table waits
    obtain ⟨t, run, frame, becomes⟩ := event_port (p := .a) due (effect.trans ends) rfl rfl
    exact ⟨t, run, frame, fun some => absurd some waits, fun _ => becomes⟩

end

/-- Settles O15: with a slot free the INSERT item joins, and without one the phase ends with FULL. -/
theorem entryRecordJoinsOrFull : Obligations.EntryRecordJoinsOrFull := by
  intro s c w e due phase dreq own op parsed
  have table : isTableCommand c.op = true := by rw [op]; rfl
  have last : recordWords c.op ≤ c.words.length + 1 :=
      record_whole ((parseEntry_length parsed).trans (by rw [op]; rfl))
  have taken : takeRecord .a c (c.words ++ [w]) (wholeRecord s c w) =
      takeEntry (c.words ++ [w]) (wholeRecord s c w) := by
    unfold takeRecord
    rw [op]
  refine ⟨fun free => ?_, fun full => ?_⟩
  · refine record_stands due phase dreq own last table rfl (taken.trans ?_)
    unfold takeEntry
    rw [parsed]
    exact if_pos (decide_eq_true free)
  · refine record_ends due phase dreq own last table (taken.trans ?_)
    unfold takeEntry
    rw [parsed]
    exact if_neg (by rw [slotFree, decide_eq_true_eq]; exact Nat.not_lt.mpr full)

/-- Settles O16: a removal joins as a REMOVE item and a window as an EVICT item. -/
theorem removalAndWindowRecordsJoin : Obligations.RemovalAndWindowRecordsJoin := by
  rintro s c w k due phase dreq own (⟨op, h, kind, parsed, rfl⟩ | ⟨op, ch, win, input, parsed, rfl⟩)
  · have last : recordWords c.op ≤ c.words.length + 1 :=
      record_whole ((parseRemoval_length parsed).trans (by rw [op]; rfl))
    refine record_stands due phase dreq own last (by rw [op]; rfl) rfl ?_
    unfold takeRecord
    rw [op]
    dsimp only
    unfold takeRemoval
    rw [parsed]
    rfl
  · have last : recordWords c.op ≤ c.words.length + 1 :=
      record_whole ((parseWindow_length parsed).trans (by rw [op]; rfl))
    refine record_stands due phase dreq own last (by rw [op]; rfl) rfl ?_
    unfold takeRecord
    rw [op]
    dsimp only
    unfold takeWindow
    rw [parsed, input, chanOfByte_chanByte]
    rfl

/-- Settles O17: a record that fails validation ends the phase with RECORD. -/
theorem badTableRecordEndsPhase : Obligations.BadTableRecordEndsPhase := by
  rintro s c w due phase dreq own (⟨op, length, fails⟩ | ⟨op, length, fails⟩ | ⟨op, length, fails⟩)
  · refine record_ends due phase dreq own (by rw [op, length]; rfl) (by rw [op]; rfl) ?_
    unfold takeRecord
    rw [op]
    dsimp only
    unfold takeEntry
    rw [fails]
  · refine record_ends due phase dreq own (by rw [op, length]; rfl) (by rw [op]; rfl) ?_
    unfold takeRecord
    rw [op]
    dsimp only
    unfold takeRemoval
    rw [fails]
  · refine record_ends due phase dreq own (by rw [op, length]; rfl) (by rw [op]; rfl) ?_
    unfold takeRecord
    rw [op]
    dsimp only
    unfold takeWindow
    rw [fails]

end Sys2Proof.Machine
end

section
/-! The batches of the table: their start, the items they apply, and what their completion does (R22 to R32). -/
namespace Sys2Proof.Machine

/-! ## States by their fields -/

/-- Two states with the same fields, those not named being found the same by `simp`. -/
theorem state_eq_by_fields {s t : State} (ports : t.ports = s.ports := by simp)
    (chans : t.chans = s.chans := by simp) (stc : t.stc = s.stc := by simp)
    (view : t.view = s.view := by simp) (grid : t.grid = s.grid := by simp)
    (picks : t.picks = s.picks := by simp) (overlay : t.overlay = s.overlay := by simp)
    (link : t.link = s.link := by simp) (rest : t.rest = s.rest := by simp)
    (pickRaw : t.pickRaw = s.pickRaw := by simp) (pending : t.pending = s.pending := by simp) : t = s :=
  State.eq_of_fields ports chans stc view grid picks overlay link rest pickRaw pending

/-! ## The start of a batch -/

theorem batchDue_of {s : State} (draining : s.stc.access = .draining) (items : s.stc.queue ≠ [])
    (none : s.stc.inFlight = 0) (waits : ∀ c b, (s.chan c).search ≠ .waiting b true) :
    batchDue s = true := by
  have notGranted (c : Chan) : granted (s.chan c).search = false := by
    cases search : (s.chan c).search with
    | waiting b g =>
      cases g
      · rfl
      · exact absurd search (waits c b)
    | _ => rfl
  simp [batchDue, draining, items, none, notGranted]

/-- The table controller applying what was queued, the ports as they were. -/
def takenBatch (s : State) : State :=
  { s with stc := { s.stc with queue := [], batch := s.stc.queue, access := .applying } }

theorem startBatch_of_due {s : State} (due : batchDue s = true) :
    startBatch s = openWithheld (joinWaitingClear (takenBatch s)) := if_pos due

theorem joinWaitingClear_of_none {s : State}
    (none : ∀ c, (s.port .a).cmd = some c → c.clearWaiting = false) : joinWaitingClear s = s := by
  unfold joinWaitingClear
  split
  · rfl
  · next c own => rw [if_neg (by simp [none c own])]

theorem joinWaitingClear_of_waiting {s : State} {c : Progress} (own : (s.port .a).cmd = some c)
    (waits : c.clearWaiting = true) : joinWaitingClear s =
      (joinItem .clear s).setPort .a { s.port .a with cmd := some { c with clearWaiting := false } } := by
  unfold joinWaitingClear
  rw [own]
  dsimp only
  rw [if_pos waits]
  show (joinItem .clear s).setPort .a
    { s.port .a with cmd := (s.port .a).cmd.map fun d => { d with clearWaiting := false } } = _
  rw [own]
  rfl

theorem joinWaitingClear_stc {s : State} (applying : s.stc.access = .applying) :
    (joinWaitingClear s).stc = { s.stc with queue := (joinWaitingClear s).stc.queue } := by
  have stays : (joinItem .clear s).stc = { s.stc with queue := (joinItem .clear s).stc.queue } := by
    simp [joinItem, applying]
  unfold joinWaitingClear
  split
  · rfl
  · split
    · exact stays
    · rfl

theorem openWithheld_of_not_withheld {s : State}
    (h : (s.port .a).state ≠ .dataIn ∨ (s.port .a).dreq = true ∨ (s.port .a).cmd = none) :
    openWithheld s = s := by
  unfold openWithheld
  dsimp only
  split
  · next withheld =>
    simp only [Bool.and_eq_true, beq_iff_eq, Bool.not_eq_true'] at withheld
    rcases h with h | h | h
    · exact absurd withheld.1 h
    · exact Bool.noConfusion (withheld.2.symm.trans h)
    · unfold openRecord
      rw [h]
  · rfl

/-- DREQ is set where the queue has been emptied (R174). -/
theorem openWithheld_of_withheld {s : State} {c : Progress} (phase : (s.port .a).state = .dataIn)
    (off : (s.port .a).dreq = false) (own : (s.port .a).cmd = some c) (empty : s.stc.queue = []) :
    openWithheld s =
      s.setPort .a { s.port .a with dreq := true, burstAttn := c.burstPos == 0 } := by
  have room : withholds c.op s = false := by simp [withholds, empty, Config.editQueueItems]
  unfold openWithheld
  dsimp only
  rw [if_pos (by rw [phase, off]; rfl), openRecord_eq own, room]
  rfl

/-- Settles O18: the queue becomes the batch, and Port A gets the DREQ or the CLEAR it waited for. -/
theorem batchStartTakesQueue : Obligations.BatchStartTakesQueue := by
  intro s draining items none waits
  have due := batchDue_of draining items none waits
  have start := startBatch_of_due due
  have noClear (h : ∀ c, (s.port .a).cmd = some c → c.clearWaiting = false) :
      startBatch s = openWithheld (takenBatch s) := by
    rw [start, joinWaitingClear_of_none (s := takenBatch s) h]
  refine ⟨_, rfl, ?_, ?_, fun h => ⟨?_, fun ready => ?_, fun c phase off own => ?_⟩,
    fun c own clear busy => ⟨?_, ?_⟩⟩
  · exact state_eq_by_fields (ports := rfl)
  · show (startBatch s).stc = { s.stc with
      queue := (startBatch s).stc.queue, batch := s.stc.queue, access := .applying }
    rw [start, openWithheld_stc, joinWaitingClear_stc (s := takenBatch s) rfl]
    rfl
  · show (startBatch s).stc.queue = []
    rw [noClear h, openWithheld_stc]
    rfl
  · refine portsBecome_driveAttention ?_ ?_
    all_goals
      rw [noClear h, openWithheld_of_not_withheld (by exact ready)]
      rfl
  · refine portsBecome_driveAttention ?_ ?_
    all_goals
      rw [noClear h, openWithheld_of_withheld (s := takenBatch s) phase off own rfl]
      rfl
  · show (startBatch s).stc.queue = _
    rw [start, openWithheld_stc, joinWaitingClear_of_waiting (s := takenBatch s) own clear]
    rfl
  · have waiting := joinWaitingClear_of_waiting (s := takenBatch s) own clear
    have opened : openWithheld (joinWaitingClear (takenBatch s)) = joinWaitingClear (takenBatch s) := by
      rw [waiting]
      refine openWithheld_of_not_withheld (.inl ?_)
      rw [port_setPort_same]
      show (s.port .a).state ≠ .dataIn
      rw [busy]
      exact PortMode.noConfusion
    refine portsBecome_driveAttention ?_ ?_
    all_goals
      rw [start, opened, waiting]
      rfl

/-! ## The completion of a batch -/

/-- The work of the batch in progress. -/
def batchWork (s : State) : BatchWork × TableCounts :=
  applyItems s.stc.batch { table := s.stc.table, windows := s.stc.windows, reserved := s.stc.reserved }

/-- The state whose batch has been applied and credited, the channels as they were. -/
def appliedBatch (s : State) : State := credit (batchWork s).2 (storeBatch (batchWork s).1 s)

theorem completeBatch_eq (s : State) : completeBatch s =
    finishTable (passTurn (flagBatch .c1 s.stc.batch (flagBatch .c0 s.stc.batch
      (dropHit .c1 (dropHit .c0 (appliedBatch s)))))) := rfl

theorem hitLost_iff {table : List Entry} {c : Chan} {r : CursorRecord} : hitLost table c r = true ↔
    ∃ h, r.hit = some h ∧ ∀ e ∈ table,
      ¬ (e.handle = h.handle ∧ e.kind = h.kind ∧ e.point = r.snapped ∧ e.seats.get c = true) := by
  unfold hitLost
  cases r.hit with
  | none => simp
  | some h => simp [hitStands, and_assoc]

theorem asksSearch_iff {c : Chan} {batch : List EditItem} : batch.any (asksSearch c) = true ↔
    ∃ i ∈ batch, i.kind = .clear ∨ ∃ w, i.kind = .evict c w := by
  have asks (i : EditItem) : asksSearch c i = true ↔ i.kind = .clear ∨ ∃ w, i.kind = .evict c w := by
    unfold asksSearch
    cases i.kind <;> simp
  simp only [List.any_eq_true, asks]

/-- What a batch's completion makes of a channel (R23, R30, R31). -/
def batchChannel (table : List Entry) (batch : List EditItem) (c : Chan) (ch : Channel) : Channel :=
  let lost := hitLost table c ch.cursor
  { ch with
    cursor := if lost then { ch.cursor with hit := none, hitLost := true } else ch.cursor
    flag := ch.flag || ((lost || batch.any (asksSearch c)) && ch.state != .detached)
    search := releaseSearch ch.search }

/-- The hit drop and the flag of a batch, one after the other, on one channel. -/
theorem flagBatch_dropHit_chan {c : Chan} {table : List Entry} {batch : List EditItem} {s t : State}
    (sameTable : s.stc.table = table) (dropped : t.chan c = (dropHit c s).chan c) :
    { (flagBatch c batch t).chan c with search := releaseSearch ((flagBatch c batch t).chan c).search } =
      batchChannel table batch c (s.chan c) := by
  rw [flagBatch_chan_same, dropped, dropHit_chan_same, sameTable]
  unfold batchChannel
  cases lost : hitLost table c (s.chan c).cursor <;> cases asked : batch.any (asksSearch c) <;> simp

theorem completeBatch_chan (s : State) (c : Chan) : (completeBatch s).chan c =
    batchChannel (batchWork s).1.table s.stc.batch c (s.chan c) := by
  have applied (d : Chan) : (appliedBatch s).chan d = s.chan d := rfl
  rw [completeBatch_eq, finishTable_chan, passTurn_chan]
  cases c with
  | c0 =>
    rw [flagBatch_chan_other _ _ Chan.noConfusion, ← applied .c0]
    exact flagBatch_dropHit_chan rfl (dropHit_chan_other _ Chan.noConfusion)
  | c1 =>
    have before : (dropHit .c0 (appliedBatch s)).chan .c1 = s.chan .c1 :=
      dropHit_chan_other _ Chan.noConfusion
    rw [← before]
    exact flagBatch_dropHit_chan (by rw [(dropHit_frame .c0 _).1]; rfl)
      (flagBatch_chan_other _ _ Chan.noConfusion)

theorem completeBatch_stc (s : State) : (completeBatch s).stc =
    { s.stc with
      table := (batchWork s).1.table, windows := (batchWork s).1.windows,
      reserved := (batchWork s).1.reserved, batch := [],
      access := if s.stc.queue = [] then .opened else .draining } := by
  have dropped : (flagBatch .c1 s.stc.batch (flagBatch .c0 s.stc.batch
      (dropHit .c1 (dropHit .c0 (appliedBatch s))))).stc = (appliedBatch s).stc := by simp
  have passed (t : State) : (passTurn t).stc =
      { t.stc with access := if t.stc.queue.isEmpty then .opened else .draining } := rfl
  rw [completeBatch_eq, (finishTable_frame _).2.1, passed, dropped]
  simp only [List.isEmpty_iff]
  rfl

/-- The events of the hits that a batch drops. -/
def lostHits (s : State) : List Event :=
  ([Chan.c0, .c1].filter fun c => hitLost (batchWork s).1.table c (s.chan c).cursor).map Event.hitChanged

theorem dropHit_port (c : Chan) (s : State) (p : PortId) :
    (dropHit c s).port p = { s.port p with
      latched := latching (if hitLost s.stc.table c (s.chan c).cursor = true then [.hitChanged c] else [])
        (s.port p).latched } := by
  unfold dropHit
  split
  · exact port_raise ..
  · rfl

/-- A port once the hits lost have been dropped. -/
theorem dropHits_port (s : State) (p : PortId) :
    (dropHit .c1 (dropHit .c0 (appliedBatch s))).port p =
      { (appliedBatch s).port p with latched := latching (lostHits s) ((appliedBatch s).port p).latched } := by
  have second : (dropHit .c0 (appliedBatch s)).chan .c1 = s.chan .c1 :=
    dropHit_chan_other _ Chan.noConfusion
  rw [dropHit_port, second, (dropHit_frame .c0 _).1, dropHit_port]
  have table : (appliedBatch s).stc.table = (batchWork s).1.table := rfl
  have first : (appliedBatch s).chan .c0 = s.chan .c0 := rfl
  rw [table, first]
  unfold lostHits
  cases lost0 : hitLost (batchWork s).1.table .c0 (s.chan .c0).cursor <;>
    cases lost1 : hitLost (batchWork s).1.table .c1 (s.chan .c1).cursor <;>
    simp [lost0, lost1, latching]

theorem finishTable_latched (s : State) (p : PortId) :
    ((finishTable s).port p).latched = (s.port p).latched := by
  unfold finishTable
  split
  · rfl
  · split
    · cases p <;> rfl
    · rfl

theorem completeBatch_latched (s : State) (p : PortId) :
    ((completeBatch s).port p).latched = latching (lostHits s) (s.port p).latched := by
  have dropped := congrArg PortState.latched (dropHits_port s p)
  rw [completeBatch_eq, finishTable_latched, passTurn_port, flagBatch_port, flagBatch_port, dropped]
  cases p <;> rfl

theorem isIn_latching (e : Event) : ∀ (l : List Event) (set : EventSet),
    e.isIn (latching l set) = true ↔ e.isIn set = true ∨ e ∈ l
  | [], set => by simp [latching]
  | e' :: rest, set => by
    have head : e.isIn (set ||| e'.toSet) = true ↔ e.isIn set = true ∨ e = e' := by
      have one := isIn_toSet e e'
      simp only [Event.isIn] at one ⊢
      rw [BitVec.getLsbD_or, one]
      simp
    rw [show latching (e' :: rest) set = latching rest (set ||| e'.toSet) from rfl, isIn_latching e rest,
      head, List.mem_cons, or_assoc]

theorem hitChanged_mem_lostHits (s : State) (c : Chan) : Event.hitChanged c ∈ lostHits s ↔
    hitLost (batchWork s).1.table c (s.chan c).cursor = true := by
  unfold lostHits
  cases c <;> simp [List.mem_map, List.mem_filter]

theorem batchChannel_flag {table : List Entry} {batch : List EditItem} {c : Chan} {ch : Channel} :
    (batchChannel table batch c ch).flag = true ↔ ch.flag = true ∨
      ((hitLost table c ch.cursor = true ∨ batch.any (asksSearch c) = true) ∧ ch.state ≠ .detached) := by
  simp only [batchChannel, Bool.or_eq_true, Bool.and_eq_true, bne_iff_ne]

theorem releaseSearch_of_not_waiting {x : Search} (none : ∀ b g, x ≠ .waiting b g) :
    releaseSearch x = x := by
  cases x with
  | waiting b g => exact absurd rfl (none b g)
  | _ => rfl

@[simp] theorem driveAttention_latched (old s : State) (p : PortId) :
    ((driveAttention old s).port p).latched = (s.port p).latched := by cases p <;> rfl

/-- Settles O19: the table, the turn, and each channel, as the batch's items leave them. -/
theorem batchCompletionAppliesItems : Obligations.BatchCompletionAppliesItems := by
  intro s due applying
  have effect : bodyOf .batchCompletion s = completeBatch s := if_pos applying
  have chan (c : Chan) : (driveAttention s (completeBatch s)).chan c =
      batchChannel (batchWork s).1.table s.stc.batch c (s.chan c) := completeBatch_chan s c
  refine ⟨driveAttention s (completeBatch s),
    (event_of_nothingDue due (bodyOf .batchCompletion)).trans (by rw [effect]),
    state_eq_by_fields (ports := rfl), completeBatch_stc s, fun c =>
    ⟨by rw [chan]; rfl, fun lost => ?_, fun kept => ?_, ?_, fun b g waits => ?_, fun none => ?_, fun p => ?_⟩⟩
  · rw [chan]
    exact if_pos (hitLost_iff.mpr lost)
  · rw [chan]
    exact if_neg (mt hitLost_iff.mp kept)
  · rw [chan, batchChannel_flag]
    exact or_congr_right (and_congr_left' (or_congr hitLost_iff asksSearch_iff))
  · rw [chan]
    show releaseSearch (s.chan c).search = _
    rw [waits]
    rfl
  · rw [chan]
    exact releaseSearch_of_not_waiting none
  · rw [driveAttention_latched, completeBatch_latched, isIn_latching, hitChanged_mem_lostHits]
    exact or_congr_right hitLost_iff

/-! ## The command that waits for its items -/

theorem finishTable_of_none {s : State} (none : (s.port .a).cmd = none) : finishTable s = s := by
  unfold finishTable
  rw [none]

theorem itemsLeft_iff (s : State) :
    itemsLeft s = true ↔ ∃ i ∈ s.stc.queue ++ s.stc.batch, i.owner = .inProgress := by
  simp [itemsLeft, or_and_right, exists_or]

theorem finishTable_completes {s : State} {c : Progress} (own : (s.port .a).cmd = some c)
    (table : isTableCommand c.op = true) (busy : (s.port .a).state = .busy)
    (applied : itemsLeft s = false) (noClear : c.clearWaiting = false) :
    finishTable s = complete .a (tableOutputs c) c.ended s := by
  unfold finishTable
  rw [own]
  dsimp only
  rw [if_pos (by simp [table, busy, applied, noClear])]

theorem finishTable_waits {s : State} {c : Progress} (own : (s.port .a).cmd = some c)
    (waits : isTableCommand c.op = false ∨ (s.port .a).state ≠ .busy ∨ c.clearWaiting = true ∨
      itemsLeft s = true) : finishTable s = s := by
  unfold finishTable
  rw [own]
  dsimp only
  rw [if_neg]
  rcases waits with h | h | h | h <;> simp [h]

/-- The state at a batch's completion before the command in progress is looked at. -/
def passedBatch (s : State) : State :=
  passTurn (flagBatch .c1 s.stc.batch (flagBatch .c0 s.stc.batch
    (dropHit .c1 (dropHit .c0 (appliedBatch s)))))

theorem passedBatch_port (s : State) (p : PortId) : (passedBatch s).port p =
    { (appliedBatch s).port p with latched := latching (lostHits s) ((appliedBatch s).port p).latched } := by
  rw [passedBatch, passTurn_port, flagBatch_port, flagBatch_port, dropHits_port]

theorem passedBatch_itemsLeft (s : State) :
    itemsLeft (passedBatch s) = true ↔ ∃ i ∈ s.stc.queue, i.owner = .inProgress := by
  have queue : (passedBatch s).stc.queue = s.stc.queue := by simp [passedBatch, passTurn, appliedBatch, storeBatch]
  have batch : (passedBatch s).stc.batch = [] := by simp [passedBatch, passTurn, appliedBatch, storeBatch]
  rw [itemsLeft_iff, queue, batch, List.append_nil]

/-- An item in the batch or in the queue has an owner in progress or an abandoned one. -/
theorem passedBatch_itemsLeft_eq_false {s : State} (h : ∀ i ∈ s.stc.queue, i.owner = .abandoned) :
    itemsLeft (passedBatch s) = false := by
  rw [Bool.eq_false_iff, ne_eq, passedBatch_itemsLeft]
  rintro ⟨i, queued, owner⟩
  rw [h i queued] at owner
  exact ItemOwner.noConfusion owner

/-- Settles O20: the command in progress is credited, and completes when it waits for nothing more. -/
theorem batchCompletionCompletesCommand : Obligations.BatchCompletionCompletesCommand := by
  intro s due applying
  have effect : bodyOf .batchCompletion s = finishTable (passedBatch s) := if_pos applying
  have other : (passedBatch s).port .b = { s.port .b with
      latched := latching (lostHits s) (s.port .b).latched } := passedBatch_port s .b
  have credited : (passedBatch s).port .a = { s.port .a with
      cmd := (s.port .a).cmd.map fun c => { c with counts := c.counts.add (batchWork s).2 }
      latched := latching (lostHits s) (s.port .a).latched } := passedBatch_port s .a
  refine ⟨driveAttention s (finishTable (passedBatch s)),
    (event_of_nothingDue due (bodyOf .batchCompletion)).trans (by rw [effect]), fun none => ?_,
    fun c own => ⟨showsTable_tableOutputs _, fun ⟨table, busy, noClear, abandoned⟩ => ?_, fun waits => ?_⟩⟩
  · rw [none] at credited
    rw [finishTable_of_none (by rw [credited]; rfl)]
    exact portsBecome_driveAttention (by rw [credited, none]; rfl) other
  · rw [own] at credited
    have left := passedBatch_itemsLeft_eq_false abandoned
    rw [finishTable_completes (s := passedBatch s) (c := { c with counts := c.counts.add (batchWork s).2 })
      (by rw [credited]; rfl) table (by rw [credited]; exact busy) left noClear]
    exact portsBecome_driveAttention (by rw [port_complete_same, credited]; rfl)
      ((port_complete_other ..).trans other)
  · rw [own] at credited
    rw [finishTable_waits (s := passedBatch s) (c := { c with counts := c.counts.add (batchWork s).2 })
      (by rw [credited]; rfl) (by rw [credited, passedBatch_itemsLeft]; exact waits)]
    exact portsBecome_driveAttention credited other

/-! ## What each item makes of the table -/

theorem length_filter_eq_sub {l : List Entry} (f : Entry → Bool) :
    (l.filter f).length = l.length - (l.filter fun e => !f e).length := by
  have split := List.length_eq_length_filter_add (l := l) f
  omega

theorem not_anySeat_reduceMask {w : PerChan Window} {e : Entry}
    (none : ∀ c, (e.seats.get c && (w.get c).contains e.point) = false) :
    anySeat (reduceMask w e) = false := by
  rw [Bool.eq_false_iff, ne_eq, anySeat_iff]
  rintro ⟨c, seat⟩
  rw [reduceMask_get, none c] at seat
  exact Bool.noConfusion seat

theorem anySeat_reduceMask {w : PerChan Window} {e : Entry}
    (some : ∃ c, (e.seats.get c && (w.get c).contains e.point) = true) :
    anySeat (reduceMask w e) = true :=
  anySeat_iff.mpr (some.imp fun c seat => (reduceMask_get w e c).trans seat)

theorem sameIdentity_iff_fields {a b : Entry} :
    sameIdentity a b = true ↔ a.handle = b.handle ∧ a.kind = b.kind ∧ a.point = b.point := by
  simp [sameIdentity, and_assoc]

theorem applyInsert_keeps (e : Entry) (b : BatchWork) :
    (applyInsert e b).1.windows = b.windows ∧ (applyInsert e b).1.reserved = b.reserved - 1 := by
  unfold applyInsert
  dsimp only
  split
  · exact ⟨rfl, rfl⟩
  · split <;> exact ⟨rfl, rfl⟩

theorem applyInsert_outside {e : Entry} {b : BatchWork} (h : anySeat (reduceMask b.windows e) = false) :
    applyInsert e b =
      ({ b with reserved := b.reserved - 1 }, { TableCounts.zero with outside := 1 }) := by
  unfold applyInsert
  exact if_pos h

theorem applyInsert_merges {e u : Entry} {b : BatchWork} (h : anySeat (reduceMask b.windows e) = true)
    (stands : u ∈ b.table) (same : sameIdentity e u = true) :
    applyInsert e b =
      ({ b with reserved := b.reserved - 1, table := b.table.map (mergeEntry e (reduceMask b.windows e)) },
        { TableCounts.zero with merged := 1 }) := by
  have found : b.table.any (sameIdentity e) = true := List.any_eq_true.mpr ⟨u, stands, same⟩
  simp [applyInsert, h, found]

theorem applyInsert_adds {e : Entry} {b : BatchWork} (h : anySeat (reduceMask b.windows e) = true)
    (new : ∀ u ∈ b.table, sameIdentity e u = false) :
    applyInsert e b =
      ({ b with reserved := b.reserved - 1,
                table := b.table ++ [{ e with seats := reduceMask b.windows e }] },
        { TableCounts.zero with added := 1 }) := by
  have found : b.table.any (sameIdentity e) = false := List.any_eq_false.mpr (by simpa using new)
  simp [applyInsert, h, found]

theorem removeMatches_iff {h : Word} {k : Option SnapKind} {e : Entry} :
    removeMatches h k e = true ↔ e.handle = h ∧ (k = none ∨ k = some e.kind) := by
  unfold removeMatches
  cases k with
  | none => simp
  | some kind => simp [eq_comm (a := kind)]

theorem mem_applyRemove {h : Word} {k : Option SnapKind} {b : BatchWork} {e : Entry} :
    e ∈ (applyRemove h k b).1.table ↔ e ∈ b.table ∧ ¬ (e.handle = h ∧ (k = none ∨ k = some e.kind)) := by
  show e ∈ b.table.filter _ ↔ _
  rw [List.mem_filter, ← removeMatches_iff, Bool.not_eq_true', Bool.eq_false_iff]

theorem applyEvict_eq (c : Chan) (w : Window) (b : BatchWork) : applyEvict c w b =
    ({ b with windows := b.windows.set c w,
              table := (b.table.map (stripSeat c w)).filter fun e => anySeat e.seats },
      { TableCounts.zero with
          cleared := (b.table.filter (losesBit c w)).length,
          freed := (b.table.filter fun e => losesBit c w e && !anySeat (stripSeat c w e).seats).length }) :=
  rfl

theorem mem_applyEvict {c : Chan} {w : Window} {b : BatchWork} {e : Entry} :
    e ∈ (applyEvict c w b).1.table ↔
      (∃ d, e.seats.get d = true) ∧ ∃ u ∈ b.table, e = stripSeat c w u := by
  rw [applyEvict_eq, List.mem_filter, anySeat_iff, List.mem_map, and_comm]
  exact and_congr_right fun _ => exists_congr fun u => and_congr_right fun _ => eq_comm

/-- An entry that loses its bit is freed when the other channel has none in it. -/
theorem freed_iff_other (c : Chan) (w : Window) (e : Entry) :
    (losesBit c w e && !anySeat (stripSeat c w e).seats) = (losesBit c w e && !e.seats.get (otherChan c)) := by
  cases loses : losesBit c w e
  · rfl
  · have left : (stripSeat c w e).seats = e.seats.set c false := by rw [stripSeat, if_pos loses]
    rw [left]
    cases c <;> simp [anySeat, PerChan.set, PerChan.get, otherChan]

/-- Settles O21: each item by its own rule, and the items of a batch one after another. -/
theorem itemsActOnTable : Obligations.ItemsActOnTable := by
  refine ⟨fun i rest b => ⟨rfl, rfl, fun own => if_pos own, fun own => if_neg ?_⟩, fun e b => ?_,
    fun h k b => ⟨rfl, rfl, fun e => mem_applyRemove, ?_⟩,
    fun c w b => ⟨rfl, rfl, fun e => mem_applyEvict, ?_⟩, fun b => ⟨rfl, rfl⟩⟩
  · rw [own]
    exact ItemOwner.noConfusion
  · intro mask same r
    refine ⟨(applyInsert_keeps e b).1, (applyInsert_keeps e b).2, fun none => ?_,
      fun some ⟨u, stands, merges⟩ => ?_, fun some new => ?_⟩
    · have outside : r = _ := applyInsert_outside (not_anySeat_reduceMask none)
      rw [outside]
      exact ⟨rfl, rfl⟩
    · have merged : r = _ := applyInsert_merges (anySeat_reduceMask some) stands
        (sameIdentity_iff_fields.mpr ⟨merges.1.symm, merges.2.1.symm, merges.2.2.symm⟩)
      rw [merged]
      refine ⟨rfl, List.length_map .., fun n u found => ⟨fun differs => ?_, fun same => ?_⟩⟩
      · show (b.table.map _)[n]? = _
        rw [List.getElem?_map, found, Option.map_some, mergeEntry, if_neg (mt sameIdentity_iff_fields.mp differs)]
      · show (b.table.map _)[n]? = _
        rw [List.getElem?_map, found, Option.map_some, mergeEntry, if_pos (sameIdentity_iff_fields.mpr same)]
        rfl
    · have fresh (u : Entry) (stands : u ∈ b.table) : sameIdentity e u = false := by
        rw [Bool.eq_false_iff, ne_eq, sameIdentity_iff_fields]
        rintro ⟨handle, kind, point⟩
        exact new u stands ⟨handle.symm, kind.symm, point.symm⟩
      have added : r = _ := applyInsert_adds (anySeat_reduceMask some) fresh
      rw [added]
      exact ⟨rfl, rfl⟩
  · exact congrArg (fun n => { TableCounts.zero with removed := n }) (length_filter_eq_sub _)
  · show (applyEvict c w b).2 = _
    rw [applyEvict_eq]
    simp only [freed_iff_other]
    rfl

end Sys2Proof.Machine
end

section
/-! Reset and start-up, and the searches: how they begin, start and complete (R39, R44, R46, R56 to R62). -/
namespace Sys2Proof.Machine

/-- What a row answers where no start is due. -/
theorem event_effect {i : Instr} {s u : State} (due : NothingDue s) (effect : bodyOf i s = u) :
    event (bodyOf i) s = .next (driveAttention s u) := by
  rw [event_of_nothingDue due, effect]

/-! ## Reset and start-up -/

/-- Settles O22: the reset state stands, and the end of start-up changes what the three pieces say. -/
theorem deviceResetAndStartUp : Obligations.DeviceResetAndStartUp := by
  refine ⟨fun s => ⟨_, rfl, rfl, rfl, rfl, rfl, rfl, rfl, rfl, rfl, rfl, fun c => ?_, rfl, rfl, rfl, rfl, rfl,
    fun p => ?_⟩, fun s due starting startUp => ?_⟩
  · cases c <;> and_intros <;> rfl
  · cases p <;> and_intros <;> rfl
  · have left (p : PortId) : leaveStartUp (s.port p) = { s.port p with state := .ready } := by
      obtain ⟨busy, none⟩ := startUp p
      simp [leaveStartUp, busy, none]
    have effect : bodyOf .endOfInitialization s = endStartUp s := if_pos starting
    refine ⟨driveAttention s (endStartUp s), event_effect due effect, rfl, fun p => ?_,
      fun c => ?_⟩
    · have ready : (endStartUp s).port p = { s.port p with state := .ready } := by
        rw [← left p]
        cases p <;> rfl
      show (driveAttention s (endStartUp s)).port p = _
      rw [port_driveAttention, ready]
    · have chan : (driveAttention s (endStartUp s)).chan c =
          { s.chan c with search := releaseSearch (s.chan c).search } := endStartUp_chan s c
      rw [chan]
      refine ⟨rfl, fun b g waits => ?_, releaseSearch_of_not_waiting⟩
      show releaseSearch (s.chan c).search = _
      rw [waits]
      rfl

/-! ## The beginning and the start of a search -/

/-- Settles O23: the start fixes the inputs, and a re-search begins on the stored raw point. -/
theorem searchesBeginAndStart : Obligations.SearchesBeginAndStart := by
  refine ⟨fun c b s waits => ?_, fun c s due quiet taken flag => ?_⟩
  · have effect := startSearch_of_waiting waits
    refine ⟨startSearch c s, rfl, by rw [effect]; rfl, startSearch_chan_other _ _ _ (otherChan_ne c), ?_⟩
    rw [startSearch_chan_of_waiting waits]
    rfl
  · have isDue : reSearchDue (s.chan c) = true := by simp [reSearchDue, quiet, taken, flag]
    have effect : bodyOf (.reSearch c) s = beginSearch c (.research (s.chan c).raw) s := if_pos isDue
    exact ⟨_, event_effect due effect, rfl, portsBecome_driveAttention rfl rfl,
      beginSearch_chan_other _ s (otherChan_ne c), beginSearch_chan_same c _ s⟩

/-! ## The completion of a search -/

theorem completeSearch_of_reset {c : Chan} {b : SearchBasis} {i : Inputs} {s : State}
    (h : (s.chan c).search = .searching b .reset i) :
    completeSearch c s = (leaveTable s).updChan c fun ch => { ch with search := .quiet } := by
  unfold completeSearch
  rw [h]

theorem completeSearch_of_view {c : Chan} {b : SearchBasis} {i : Inputs} {s : State}
    (h : (s.chan c).search = .searching b .view i) :
    completeSearch c s = beginSearch c b (leaveTable s) := by
  unfold completeSearch
  rw [h]

theorem completeSearch_of_unmarked {c : Chan} {b : SearchBasis} {i : Inputs} {s : State}
    (h : (s.chan c).search = .searching b .none i) : completeSearch c s =
      handlePresses c b.presses (writeResult c b i (resolve c i s.stc) (leaveTable s)) := by
  unfold completeSearch
  rw [h]

theorem quietSearch_chan (c : Chan) (s : State) :
    ((leaveTable s).updChan c fun ch => { ch with search := .quiet }).chan (otherChan c) =
      s.chan (otherChan c) ∧
    ((leaveTable s).updChan c fun ch => { ch with search := .quiet }).chan c =
      { s.chan c with search := .quiet } := by
  cases c <;> exact ⟨rfl, rfl⟩

/-- Settles O24: a stale search leaves the table, and begins again only where the view has changed. -/
theorem staleCompletionDiscards : Obligations.StaleCompletionDiscards := by
  intro c b m i s due searching stale
  cases m with
  | none => exact absurd rfl stale
  | reset =>
    have effect : bodyOf (.searchCompletion c) s = _ := completeSearch_of_reset searching
    exact ⟨_, event_effect due effect, rfl, portsBecome_driveAttention rfl rfl,
      quietSearch_chan c s⟩
  | view =>
    have effect : bodyOf (.searchCompletion c) s = _ := completeSearch_of_view searching
    exact ⟨_, event_effect due effect, rfl, portsBecome_driveAttention rfl rfl,
      beginSearch_chan_other b (leaveTable s) (otherChan_ne c), beginSearch_chan_same c b (leaveTable s)⟩

theorem sameHit_iff {a b : Option Hit} : sameHit a b = true ↔
    (a.map fun h => (h.handle, h.kind)) = b.map fun h => (h.handle, h.kind) := by
  cases a <;> cases b <;> simp [sameHit]

theorem isIn_writeResult (c : Chan) (b : SearchBasis) (i : Inputs) (r : SearchResult) (s : State) (p : PortId)
    (e : Event) : e.isIn ((writeResult c b i r s).port p).latched = true ↔
      (e.isIn (s.port p).latched = true ∨
        (e = .hitChanged c ∧ (s.chan c).cursor.hit.map (fun h => (h.handle, h.kind)) ≠
          r.hit.map fun h => (h.handle, h.kind)) ∨
        (e = .windowNear c ∧ (s.chan c).zone = .interior ∧ r.zone = .margin) ∨
        (e = .windowExit c ∧ (s.chan c).zone ≠ .outside ∧ r.zone = .outside)) := by
  unfold writeResult
  simp only [isIn_raiseIf, port_updChan, Bool.and_eq_true, bne_iff_ne, beq_iff_eq, Bool.not_eq_true',
    Bool.eq_false_iff, ne_eq, sameHit_iff, or_assoc]

theorem writeResult_port_latched (c : Chan) (b : SearchBasis) (i : Inputs) (r : SearchResult) (s : State)
    (p : PortId) : (writeResult c b i r s).port p =
      { s.port p with latched := ((writeResult c b i r s).port p).latched } := by
  unfold writeResult raiseIf
  dsimp only
  cases p <;> (repeat' split) <;> rfl

/-- Settles O25: the result is written whole, and then the presses of the basis are handled. -/
theorem completionWritesResult : Obligations.CompletionWritesResult := by
  refine ⟨fun c p rest s => ⟨rfl, rfl⟩, fun c b i s due searching => ?_⟩
  have effect : bodyOf (.searchCompletion c) s = _ := completeSearch_of_unmarked searching
  refine ⟨writeResult c b i (resolve c i s.stc) (leaveTable s), event_effect due effect,
    state_eq_by_fields (ports := rfl) (stc := (writeResult_frame ..).1),
    writeResult_chan_other _ _ _ (leaveTable s) (otherChan_ne c), ?_,
    fun p => ⟨writeResult_port_latched c b i _ (leaveTable s) p, isIn_writeResult c b i _ (leaveTable s) p⟩⟩
  rw [writeResult_chan_same, resultRecord, beq_eq_decide]
  rfl

end Sys2Proof.Machine
end

section
/-! The parameter records: view, grid and settings, whole at their last word (R4 to R8, R11, R41). -/
namespace Sys2Proof.Machine

theorem parseGrid_length {l : List Word} {g : Grid} (h : parseGrid l = some g) : l.length = 9 := by
  unfold parseGrid at h
  split at h
  · rfl
  · cases h

theorem parseSettings_length {l : List Word} {v : Settings} (h : parseSettings l = some v) : l.length = 4 := by
  unfold parseSettings at h
  split at h
  · rfl
  · cases h

/-- Port B with the last word of a record in hand. -/
def wholeViewRecord (s : State) (c : Progress) (w : Word) : State :=
  s.setPort .b { s.port .b with
    dreq := false, burstAttn := false, cmd := some { c with words := c.words ++ [w] } }

theorem bodyOf_viewWrite_last {s : State} {c : Progress} {w : Word} (phase : (s.port .b).state = .dataIn)
    (dreq : (s.port .b).dreq = true) (own : (s.port .b).cmd = some c) (op : c.op = .setView)
    (last : c.words.length = 5) :
    bodyOf (.dataWrite .b w) s = takeView .b (c.words ++ [w]) (wholeViewRecord s c w) := by
  have whole : recordWords c.op ≤ c.words.length + 1 := by rw [op, last]; decide
  have taken := (if_pos ⟨phase, dreq⟩ : bodyOf (.dataWrite .b w) s = _).trans (moveWordIn_last own whole)
  unfold takeRecord at taken
  rw [op] at taken
  exact taken

theorem markView_eq (x : Search) : markView x =
    match x with
    | .searching b .none i => .searching b .view i
    | other => other := by
  cases x with
  | searching b m i => cases m <;> rfl
  | waiting b g => rfl
  | quiet => rfl

theorem outsideDetached_eq (x : ChanState) : (x != .detached) = decide (x ≠ .detached) := by cases x <;> rfl

/-- Settles O29: the record takes effect whole, or the command completes with PARAM. -/
theorem viewRecordTakesEffect : Obligations.ViewRecordTakesEffect := by
  intro s c w due phase dreq own op last
  have write := bodyOf_viewWrite_last (w := w) phase dreq own op last
  refine ⟨fun fails => ?_, fun ox oy n sh parsed => ?_⟩
  · unfold takeView at write
    rw [fails] at write
    exact event_port (p := .b) due write rfl rfl
  · unfold takeView at write
    rw [parsed] at write
    refine ⟨_, event_effect due write, rfl, portsBecome_driveAttention rfl rfl, fun d => ?_⟩
    refine (acceptView_chan (ox, oy, n, sh) (wholeViewRecord s c w) d).trans ?_
    rw [markView_eq, outsideDetached_eq]
    rfl

/-- Settles O30: grid and settings take effect whole, or the command completes with PARAM. -/
theorem gridAndSettingsRecordsTakeEffect : Obligations.GridAndSettingsRecordsTakeEffect := by
  intro s c w due phase dreq own
  have write (last : recordWords c.op ≤ c.words.length + 1) := bodyOf_dataWrite_last (w := w) phase dreq own last
  unfold takeRecord at write
  refine ⟨?_, fun g op parsed => ?_, fun v d op parsed input => ?_⟩
  · rintro (⟨op, length, fails⟩ | ⟨op, length, fails⟩)
    · have taken := write (by rw [op, length]; decide)
      rw [op] at taken
      dsimp only at taken
      unfold takeGrid at taken
      rw [fails] at taken
      exact event_port (p := .a) due taken rfl rfl
    · have taken := write (by rw [op, length]; decide)
      rw [op] at taken
      dsimp only at taken
      unfold takeSettings at taken
      rw [fails] at taken
      exact event_port (p := .a) due taken rfl rfl
  · have taken := write (record_whole ((parseGrid_length parsed).trans (by rw [op]; rfl)))
    rw [op] at taken
    dsimp only at taken
    unfold takeGrid at taken
    rw [parsed] at taken
    refine ⟨_, event_effect due taken, rfl, portsBecome_driveAttention rfl rfl, fun d => ?_⟩
    refine (acceptGrid_chan g (wholeRecord s c w) d).trans ?_
    rw [outsideDetached_eq]
    rfl
  · have taken := write (record_whole ((parseSettings_length parsed).trans (by rw [op]; rfl)))
    rw [op] at taken
    dsimp only at taken
    unfold takeSettings at taken
    rw [parsed, input, chanOfByte_chanByte] at taken
    refine ⟨_, event_effect due taken, rfl, ?_, ?_, ?_⟩
    · cases d <;> exact portsBecome_driveAttention rfl rfl
    · exact acceptSettings_chan_other v (wholeRecord s c w) (otherChan_ne d)
    · refine (acceptSettings_chan_same d v (wholeRecord s c w)).trans ?_
      rw [outsideDetached_eq]
      rfl

end Sys2Proof.Machine
end

section
/-! The Pointer Channel: its reports, its rest timer and its reset (R68 to R83). -/
namespace Sys2Proof.Machine

/-! ## An event that changes one channel -/

/-- One channel is replaced and events are latched; nothing else changes but attention outputs. -/
structure ChangesChannel (c : Chan) (ch : Channel) (l : EventSet → EventSet) (s t : State) : Prop where
  frame : t = { s with ports := t.ports, chans := t.chans }
  other : t.chan (otherChan c) = s.chan (otherChan c)
  chan : t.chan c = ch
  ports : PortsKept l s t

theorem raiseIf_port (b : Bool) (e : Event) (s : State) (p : PortId) : (raiseIf b e s).port p =
    { s.port p with latched := latching (if b = true then [e] else []) (s.port p).latched } := by
  cases b <;> cases p <;> rfl

theorem changesChannel_raiseIf (c : Chan) (ch : Channel) (b : Bool) (e : Event) (s : State) :
    ChangesChannel c ch (latching (if b = true then [e] else [])) s
      (driveAttention s (raiseIf b e (s.setChan c ch))) where
  frame := state_eq_by_fields (ports := rfl)
  other := by simp
  chan := by simp
  ports := portsBecome_driveAttention (raiseIf_port b e _ _) (raiseIf_port b e _ _)

theorem changesChannel_raise (c : Chan) (ch : Channel) (e : Event) (s : State) :
    ChangesChannel c ch (latching [e]) s (driveAttention s (raise e (s.setChan c ch))) :=
  changesChannel_raiseIf c ch true e s

theorem changesChannel_setChan (c : Chan) (ch : Channel) (s : State) :
    ChangesChannel c ch id s (driveAttention s (s.setChan c ch)) :=
  changesChannel_raiseIf c ch false (.hitChanged c) s

/-! ## The take of a report -/

theorem detectPresses_mem {last now : BitVec 3} {k : Press} : k ∈ detectPresses last now ↔
    (k = .pick ∧ now.getLsbD 0 = true ∧ last.getLsbD 0 = false) ∨
    (k = .finish ∧ now.getLsbD 1 = true ∧ last.getLsbD 1 = false) ∨
    (k = .cancel ∧ now.getLsbD 2 = true ∧ last.getLsbD 2 = false) := by
  have one (b : Bool) (p : Press) : k ∈ (if b = true then [p] else []) ↔ k = p ∧ b = true := by
    cases b <;> simp
  rw [detectPresses, List.mem_append, List.mem_append, one, one, one]
  simp only [Bool.and_eq_true, Bool.not_eq_true', or_assoc]

/-- Presses of one bitmap keep the order PICK, FINISH, CANCEL (R78). -/
theorem detectPresses_sublist (last now : BitVec 3) :
    (detectPresses last now).Sublist [.pick, .finish, .cancel] := by
  have one (b : Bool) (p : Press) : (if b then [p] else []).Sublist [p] := by cases b <;> simp
  exact ((one _ .pick).append (one _ .finish)).append (one _ .cancel)

theorem tabletGap_eq (x y : TabletCoord) : tabletGap x y = ((x.toNat : Int) - y.toNat).natAbs := by
  unfold tabletGap
  omega

theorem beyondDeadband_iff {ch : Channel} {edge : Bool} {pt : TabletPoint} :
    beyondDeadband ch edge pt = true ↔
      edge = true ∨ ch.state = .detached ∨ ch.state = .away ∨
        ch.settings.deadband.toNat < ((pt.x.toNat : Int) - ch.raw.x.toNat).natAbs ∨
        ch.settings.deadband.toNat < ((pt.y.toNat : Int) - ch.raw.y.toNat).natAbs := by
  simp only [beyondDeadband, tabletGap_eq, Bool.or_eq_true, beq_iff_eq, decide_eq_true_eq, gt_iff_lt, or_assoc]

/-- A change of one channel under a change that may raise an event. -/
theorem updChan_raiseIf (c : Chan) (f : Channel → Channel) (b : Bool) (e : Event) (s : State) :
    (raiseIf b e s).updChan c f = raiseIf b e (s.updChan c f) := by
  cases b <;> cases c <;> rfl

theorem updChan_setChan (c : Chan) (ch : Channel) (f : Channel → Channel) (s : State) :
    (s.setChan c ch).updChan c f = s.setChan c (f ch) := by cases c <;> rfl

theorem setChanState_setChan (c : Chan) (ch : Channel) (st : ChanState) (s : State) :
    setChanState c st (s.setChan c ch) =
      raiseIf (ch.state != st) (.channelState c) (s.setChan c { ch with state := st }) := by
  cases c <;> rfl

theorem takeBeyond_setChan (c : Chan) (ch : Channel) (pt : TabletPoint) (bits : BitVec 3) (s : State) :
    takeBeyond c pt bits (s.setChan c ch) =
      raiseIf (ch.state != .tracking) (.channelState c) (s.setChan c { ch with
        buttons := bits, raw := pt, state := .tracking, timer := .running (restInterval s.rest)
        search := .waiting (.report pt (detectPresses ch.buttons bits)) (s.stc.access == .opened) }) := by
  have stored : (s.setChan c ch).updChan c (fun d =>
      { d with buttons := bits, raw := pt, timer := .running (restInterval s.rest) }) =
      s.setChan c { ch with buttons := bits, raw := pt, timer := .running (restInterval s.rest) } := by
    cases c <;> rfl
  have opened (b : Bool) (e : Event) (t : State) : (raiseIf b e t).stc = t.stc := by cases b <;> rfl
  rw [takeBeyond, setChan_rest, stored, setChanState_setChan, beginSearch, updChan_raiseIf, opened]
  cases c <;> rfl

theorem takeProxOut_present {c : Chan} {ch : Channel} {s : State} (h : ch.state = .tracking ∨ ch.state = .resting) :
    takeProxOut c (s.setChan c ch) = raise (.channelState c)
      (s.setChan c { ch with buttons := 0, state := .away, timer := .stopped }) := by
  have leaves : (ch.state != .away) = true := by rcases h with h | h <;> rw [h] <;> rfl
  unfold takeProxOut
  rw [chan_setChan_same, updChan_setChan]
  dsimp only
  rw [updChan_setChan, setChanState_setChan]
  dsimp only
  rw [leaves]
  rcases h with h | h <;> simp only [h] <;> rfl

theorem takeProxOut_absent {c : Chan} {ch : Channel} {s : State} (h : ch.state = .away ∨ ch.state = .detached) :
    takeProxOut c (s.setChan c ch) = s.setChan c { ch with buttons := 0 } := by
  unfold takeProxOut
  rw [chan_setChan_same, updChan_setChan]
  rcases h with h | h <;> simp only [h]

section
variable {c : Chan} {r : Report} {rest : List Report} {s : State}

theorem takeReport_of_head (quiet : (s.chan c).search = .quiet) (queue : (s.chan c).queue = r :: rest) :
    takeReport c s = actOnReport c r (s.setChan c { s.chan c with queue := rest }) := by
  unfold takeReport
  rw [quiet, queue]
  rfl

theorem actOnReport_position {ch : Channel} {pt : TabletPoint} {bits : BitVec 3}
    (msg : r.msg = .motion pt bits ∨ r.msg = .proxIn pt bits) : actOnReport c r (s.setChan c ch) =
      if beyondDeadband ch r.edge pt then takeBeyond c pt bits (s.setChan c ch) else s.setChan c ch := by
  unfold actOnReport
  rcases msg with msg | msg <;> rw [msg, chan_setChan_same]

theorem actOnReport_proxOut (msg : r.msg = .proxOut) (s : State) : actOnReport c r s = takeProxOut c s := by
  unfold actOnReport
  rw [msg]

/-- A report taken changes its channel alone, whatever the report. -/
theorem takeReport_changes (quiet : (s.chan c).search = .quiet) (queue : (s.chan c).queue = r :: rest) :
    ∃ b ch, takeReport c s = raiseIf b (.channelState c) (s.setChan c ch) := by
  rw [takeReport_of_head quiet queue]
  have position {pt : TabletPoint} {bits : BitVec 3}
      (msg : r.msg = .motion pt bits ∨ r.msg = .proxIn pt bits) :
      ∃ b ch, actOnReport c r (s.setChan c { s.chan c with queue := rest }) =
        raiseIf b (.channelState c) (s.setChan c ch) := by
    rw [actOnReport_position msg]
    split
    · exact ⟨_, _, takeBeyond_setChan ..⟩
    · exact ⟨false, _, rfl⟩
  cases msg : r.msg with
  | motion pt bits => exact position (.inl msg)
  | proxIn pt bits => exact position (.inr msg)
  | proxOut =>
    rw [actOnReport_proxOut msg]
    cases state : (s.chan c).state with
    | tracking => exact ⟨true, _, takeProxOut_present (.inl state)⟩
    | resting => exact ⟨true, _, takeProxOut_present (.inr state)⟩
    | away => exact ⟨false, _, takeProxOut_absent (.inl state)⟩
    | detached => exact ⟨false, _, takeProxOut_absent (.inr state)⟩

end

theorem expireRest_of_running {c : Chan} {n : Nat} {s : State} (running : (s.chan c).timer = .running n)
    (state : (s.chan c).state = .tracking) : expireRest c s =
      raise (.channelState c) (s.setChan c { s.chan c with state := .resting, timer := .stopped }) := by
  have leaves : ((s.chan c).state != .resting) = true := by rw [state]; rfl
  unfold expireRest
  rw [running]
  show setChanState c .resting (s.setChan c { s.chan c with timer := .stopped }) = _
  rw [setChanState_setChan]
  dsimp only
  rw [leaves]
  rfl

theorem restInterval_eq (v : Byte) : restInterval v = if v = 0 then 600 else 4 * v.toNat := by
  unfold restInterval
  rw [Nat.mul_comm]

/-- A channel that becomes TRACKING raises its event where it was not. -/
theorem channelStateRaised (c : Chan) (x : ChanState) :
    (if (x != .tracking) = true then [Event.channelState c] else []) =
      if x = .tracking then [] else [.channelState c] := by
  cases x <;> rfl

/-- Settles O31: a report by its kind and the deadband, and the expiry of a running rest timer. -/
theorem reportsAndRestTimerActOnChannel : Obligations.ReportsAndRestTimerActOnChannel := by
  refine ⟨fun c r rest s due quiet queue => ?_, fun c n s due running state => ?_⟩
  · intro ch away
    have head := takeReport_of_head quiet queue
    obtain ⟨b, new, changes⟩ := takeReport_changes quiet queue
    have changed := changesChannel_raiseIf c new b (.channelState c) s
    rw [← changes] at changed
    refine ⟨driveAttention s (takeReport c s), event_effect (i := .reportTake c) due rfl, changed.frame,
      changed.other, fun pt bits msg => ?_, fun msg => ?_⟩
    · have position := head.trans (actOnReport_position msg)
      refine ⟨fun beyond => ⟨detectPresses ch.buttons bits, fun k => detectPresses_mem,
        detectPresses_sublist _ _, ?_⟩, fun within => ?_⟩
      · rw [position.trans (if_pos (beyondDeadband_iff.mpr beyond)), takeBeyond_setChan, beq_eq_decide,
          restInterval_eq, ← channelStateRaised]
        exact ⟨(changesChannel_raiseIf ..).ports, (changesChannel_raiseIf ..).chan⟩
      · rw [position.trans (if_neg (mt beyondDeadband_iff.mp within))]
        have kept := changesChannel_setChan c { s.chan c with queue := rest } s
        exact ⟨kept.ports, kept.chan⟩
    · rw [actOnReport_proxOut msg] at head
      refine ⟨fun present => ?_, fun absent => ?_⟩
      · rw [head.trans (takeProxOut_present present)]
        have left := changesChannel_raise c
          { s.chan c with queue := rest, buttons := 0, state := .away, timer := .stopped } (.channelState c) s
        exact ⟨left.ports, left.chan⟩
      · rw [head.trans (takeProxOut_absent absent)]
        have kept := changesChannel_setChan c { s.chan c with queue := rest, buttons := 0 } s
        exact ⟨kept.ports, kept.chan⟩
  · have effect : bodyOf (.restTimerExpiry c) s = _ := expireRest_of_running running state
    have changed := changesChannel_raise c { s.chan c with state := .resting, timer := .stopped }
      (.channelState c) s
    exact ⟨_, event_effect due effect, changed.frame, changed.ports, changed.other, changed.chan⟩

/-! ## A command that acts on a channel and completes -/

/-- The ports of a command that is accepted, latches events and completes. -/
theorem portsBecome_complete {p : PortId} {o : ParamBlock} {f : FaultCode} {l : EventSet → EventSet}
    {s u : State} (ports : ∀ q, u.port q = { (accept p s).port q with latched := l (s.port q).latched }) :
    PortsBecome p (servedPort (s.port p) o f) l s (driveAttention s (complete p o f u)) := by
  refine portsBecome_driveAttention ?_ ?_
  · rw [port_complete_same, ports, port_accept_same]
    rfl
  · rw [port_complete_other, ports, port_accept_other]

theorem latching_append (l m : List Event) (set : EventSet) :
    latching (l ++ m) set = latching m (latching l set) := List.foldl_append ..

/-- An accepted command that names a channel is its body on that channel. -/
theorem issue_channel {p : PortId} {op : Command} {w : ParamBlock} {c : Chan}
    (body : ParamBlock → Chan → State → State) {s : State} (ready : Ready p w s) (names : w.p0 = chanByte c)
    (role : inRole op p = true) (ok : paramsOk op w = true) :
    issue p op (fun i t => withChannel i (body i) t) s = body w c (accept p s) :=
  (issue_of_ready ready role ok).trans (withChannel_chanByte w c (body w) (accept p s) names)

/-- The events of a channel's reset (R82). -/
def resetEvents (c : Chan) (ch : Channel) : List Event :=
  (if ch.state = .detached then [] else [.channelState c]) ++
    (if ch.stage = .idle then [] else [.stageChanged c])

/-- A channel's reset before its command completes (R82). -/
def clearedChannel (c : Chan) (s : State) : State :=
  raiseIf ((s.chan c).stage != .idle) (.stageChanged c) <|
    raiseIf ((s.chan c).state != .detached) (.channelState c) <| s.updChan c resetChannelState

theorem acceptResetChannel_eq (p : PortId) (c : Chan) (s : State) : acceptResetChannel p c s =
    complete p { ParamBlock.zero with
      p0 := lowByte (s.chan c).queue.length, p1 := resetSearchCode (s.chan c).search } .none
      (clearedChannel c s) := rfl

theorem clearedChannel_port (c : Chan) (s : State) (p : PortId) : (clearedChannel c s).port p =
    { s.port p with latched := latching (resetEvents c (s.chan c)) (s.port p).latched } := by
  unfold clearedChannel resetEvents
  rw [raiseIf_port, raiseIf_port, port_updChan, latching_append]
  simp only [bne_iff_ne, ite_not, ne_eq]

theorem clearedChannel_chan (c : Chan) (s : State) :
    (clearedChannel c s).chan c = resetChannelState (s.chan c) ∧
    (clearedChannel c s).chan (otherChan c) = s.chan (otherChan c) := by
  simp [clearedChannel]

theorem resetSearchCode_eq (x : Search) : resetSearchCode x =
    match x with | .quiet => 0 | .searching _ _ _ => 1 | .waiting _ _ => 2 := by
  cases x <;> rfl

/-- Settles O32: the channel is reset but for its settings and its search in flight. -/
theorem resetChannelClears : Obligations.ResetChannelClears := by
  intro c n s ready ch
  have effect : bodyOf (.resetChannel .a) s = acceptResetChannel .a c (accept .a s) :=
    issue_channel (op := .resetChannel) (fun _ => acceptResetChannel .a) ready rfl rfl (by cases c <;> rfl)
  obtain ⟨reset, other⟩ := clearedChannel_chan c (accept .a s)
  have search : (driveAttention s (acceptResetChannel .a c (accept .a s))).chan c =
      resetChannelState (s.chan c) := reset
  refine ⟨driveAttention s (acceptResetChannel .a c (accept .a s)), event_effect ready.1 effect,
    state_eq_by_fields (ports := rfl), other, by rw [search]; rfl, fun quiet => ?_, fun b g waits => ?_,
    fun b m i searching => ?_, ?_⟩
  · rw [search, resetChannelState, show (s.chan c).search = _ from quiet]
    rfl
  · rw [search, resetChannelState, show (s.chan c).search = _ from waits]
    rfl
  · rw [search, resetChannelState, show (s.chan c).search = _ from searching]
    rfl
  · rw [acceptResetChannel_eq, resetSearchCode_eq]
    refine portsBecome_complete fun q => ?_
    rw [clearedChannel_port]
    cases q <;> rfl

end Sys2Proof.Machine
end

section
/-! The offer of a held frame to its channel's report queue (R72, R73, R160, R162). -/
namespace Sys2Proof.Machine

theorem joinQueue_replaces {ch : Channel} {m : Message} {before : List Report} {y : Report}
    (plain : isEdge ch m = false) (queue : ch.queue = before ++ [y]) (youngest : y.edge = false) :
    joinQueue ch m = some (before ++ [{ msg := m, edge := false }]) := by
  have last : youngestPlain ch.queue = true := youngestPlain_iff.mpr ⟨y, by rw [queue]; simp, youngest⟩
  rw [joinQueue_eq, plain, last, queue, List.dropLast_concat]
  rfl

theorem noReplacement {ch : Channel} {m : Message}
    (h : isEdge ch m = true ∨ ∀ y, ch.queue.getLast? = some y → y.edge = true) :
    (!isEdge ch m && youngestPlain ch.queue) = false := by
  rcases h with edge | edges
  · rw [edge]
    rfl
  · have none : youngestPlain ch.queue = false := by
      rw [Bool.eq_false_iff, ne_eq, youngestPlain_iff]
      rintro ⟨y, youngest, plain⟩
      exact Bool.noConfusion ((edges y youngest).symm.trans plain)
    rw [none, Bool.and_false]

theorem joinQueue_appends {ch : Channel} {m : Message}
    (h : isEdge ch m = true ∨ ∀ y, ch.queue.getLast? = some y → y.edge = true) (room : ch.queue.length < 4) :
    joinQueue ch m = some (ch.queue ++ [{ msg := m, edge := isEdge ch m }]) := by
  rw [joinQueue_eq, noReplacement h, if_neg Bool.noConfusion, if_pos room]

theorem joinQueue_refuses {ch : Channel} {m : Message}
    (h : isEdge ch m = true ∨ ∀ y, ch.queue.getLast? = some y → y.edge = true) (full : 4 ≤ ch.queue.length) :
    joinQueue ch m = none := by
  rw [joinQueue_eq, noReplacement h, if_neg Bool.noConfusion, if_neg (Nat.not_lt.mpr full)]

theorem holdLevel_iff (l : Link) : holdLevel l = true ↔ 2 ≤ l.holding.length ∨ l.state = .overrun := by
  rw [holdLevel, Bool.or_eq_true, decide_eq_true_iff, beq_iff_eq]
  rfl

/-- Settles O33: the offer joins as a plain replacement or at the tail, or it is refused. -/
theorem frameOfferJoinsOrRefuses : Obligations.FrameOfferJoinsOrRefuses := by
  intro f rest s due held level ch reference edge joins
  have referenceEq : reference = referenceButtons ch := by
    unfold referenceButtons reference Message.buttons
    cases ch.queue.getLast? with
    | none => rfl
    | some y => cases y.msg <;> rfl
  have edgeEq : edge = isEdge ch f.msg := by
    unfold edge
    rw [referenceEq]
    cases msg : f.msg with
    | motion pt b =>
      show decide (b ≠ _) = (b != _)
      rw [bne, beq_eq_decide, decide_not]
    | proxIn pt b => rfl
    | proxOut => rfl
  have joined {q : List Report} (offer : joinQueue ch f.msg = some q) :
      joins q (driveAttention s (driveHold (offerFrame s))) := by
    rw [offerFrame_joins held offer]
    refine ⟨rfl, ?_, ?_, ?_, ?_⟩
    · exact portsBecome_driveAttention rfl rfl
    · exact chan_setChan_other _ _ _ _ (otherChan_ne f.chan)
    · exact chan_setChan_same _ _ _
    · exact holdLevel_iff { s.link with holding := rest }
  rw [edgeEq]
  refine ⟨driveAttention s (driveHold (offerFrame s)), event_effect (i := .frameOffer) due rfl,
    fun before y plain queue youngest => joined (joinQueue_replaces plain queue youngest),
    fun appends room => joined (joinQueue_appends appends room), fun appends full => ?_⟩
  rw [offerFrame_refused held (joinQueue_refuses appends full), driveHold_of_level level]
  exact ⟨rfl, portsBecome_driveAttention rfl rfl⟩

end Sys2Proof.Machine
end

section
/-! The presses that make a record, and what the record's acceptance or refusal leaves (R94 to R100). -/
namespace Sys2Proof.Machine

/-! ## A channel's steps as replacements -/

theorem setChan_self (c : Chan) (s : State) : s.setChan c (s.chan c) = s := by cases c <;> rfl

theorem setStage_setChan (c : Chan) (ch : Channel) (st : Stage) (s : State) :
    setStage c st (s.setChan c ch) =
      raiseIf (decide (ch.stage ≠ st)) (.stageChanged c) (s.setChan c { ch with stage := st }) := by
  have differs : (ch.stage != st) = decide (ch.stage ≠ st) := by rw [bne, beq_eq_decide, decide_not]
  rw [setStage, chan_setChan_same, updChan_setChan, differs]

/-- The stage and the anchors a step leaves, where the channel stood as `ch` (R91, R93). -/
def stepTo (c : Chan) (ch ch' : Channel) (s : State) : State :=
  raiseIf (decide (ch.stage ≠ ch'.stage)) (.stageChanged c) (s.setChan c ch')

section
variable {c : Chan} {ch : Channel} {t : State} (stands : t.chan c = ch)
include stands

theorem addAnchor_eq_setChan :
    addAnchor c t = t.setChan c { ch with anchors := ch.anchors ++ [ch.cursor.snapped] } := by
  subst stands
  rfl

theorem clearAnchors_eq_setChan : clearAnchors c t = t.setChan c { ch with anchors := [] } := by
  subst stands
  rfl

theorem recordAccepted_anchor : recordAccepted c .anchor t =
    stepTo c ch { ch with stage := .banding, anchors := ch.anchors ++ [ch.cursor.snapped] } t := by
  rw [recordAccepted, addAnchor_eq_setChan stands, setStage_setChan]
  rfl

theorem recordAccepted_done : recordAccepted c .done t =
    applyAction c (t.setChan c { ch with anchors := ch.anchors ++ [ch.cursor.snapped] }) := by
  rw [recordAccepted, addAnchor_eq_setChan stands]

theorem recordAccepted_finish : recordAccepted c .finish t = applyAction c (t.setChan c ch) := by
  subst stands
  rw [setChan_self]
  rfl

theorem recordAccepted_cancelled : recordAccepted c .cancelled t =
    stepTo c ch { ch with stage := .armed, anchors := [] } t := by
  rw [recordAccepted, clearAnchors_eq_setChan stands, setStage_setChan]
  rfl

end

/-! ## The completion action (R90) -/

section
variable {c : Chan} {ch : Channel} (list : List Point) (t : State)

theorem applyAction_hold (action : ch.action = some .hold) :
    applyAction c (t.setChan c { ch with anchors := list }) =
      stepTo c ch { ch with stage := .hold, anchors := list } t := by
  unfold applyAction
  rw [chan_setChan_same]
  dsimp only
  rw [action]
  exact setStage_setChan ..

theorem applyAction_repeated (action : ch.action = some .repeated) :
    applyAction c (t.setChan c { ch with anchors := list }) =
      stepTo c ch { ch with stage := .armed, anchors := [] } t := by
  unfold applyAction
  rw [chan_setChan_same]
  dsimp only
  rw [action]
  dsimp only
  rw [clearAnchors, updChan_setChan]
  exact setStage_setChan ..

theorem applyAction_once (action : ch.action = some .once) :
    applyAction c (t.setChan c { ch with anchors := list }) =
      stepTo c ch { ch with
        stage := .idle, anchors := [], template := .none, target := none, action := none } t := by
  unfold applyAction
  rw [chan_setChan_same]
  dsimp only
  rw [action]
  dsimp only
  rw [clearAnchors, updChan_setChan, dropTemplate, updChan_setChan]
  exact setStage_setChan ..

end

/-! ## The offer of the record -/

theorem recordRefused_cancelled (c : Chan) (s : State) :
    recordRefused c .cancelled s = recordAccepted c .cancelled s := rfl

theorem recordRefused_other {k : RecordKind} (c : Chan) (s : State) (h : k ≠ .cancelled) :
    recordRefused c k s = s := by
  cases k with
  | cancelled => exact absurd rfl h
  | _ => rfl

theorem offerRecord_of_room {s : State} (c : Chan) (k : RecordKind) (n : Nat)
    (room : s.picks.records.length < 32) :
    offerRecord c k n s = recordAccepted c k (offerPick (makeRecord c k n s) s) :=
  if_pos ((picksHaveRoom_iff s).mpr room)

theorem offerRecord_of_full {s : State} (c : Chan) (k : RecordKind) (n : Nat)
    (full : 32 ≤ s.picks.records.length) :
    offerRecord c k n s = recordRefused c k (offerPick (makeRecord c k n s) s) :=
  if_neg (mt (picksHaveRoom_iff s).mp (Nat.not_lt.mpr full))

/-- A press that makes a record acts on the answer to its offer, where the answer acts as `acted`. -/
theorem press_outcome {c : Chan} {p : Press} {s : State} {k : RecordKind} {n : Nat} {acted : State → State}
    (makes : pressRecord (s.chan c) p = some (k, n))
    (accepted : ∀ t : State, t.chan c = s.chan c → recordAccepted c k t = acted t) :
    pressRecord (s.chan c) p = some (k, n) ∧
    (s.picks.records.length < 32 → handlePress c p s = acted (offerPick (makeRecord c k n s) s)) ∧
    (32 ≤ s.picks.records.length → k ≠ .cancelled →
      handlePress c p s = offerPick (makeRecord c k n s) s) ∧
    (32 ≤ s.picks.records.length → k = .cancelled →
      handlePress c p s = acted (offerPick (makeRecord c k n s) s)) := by
  have offers : handlePress c p s = offerRecord c k n s := by rw [handlePress, makes]
  have answer := accepted (offerPick (makeRecord c k n s) s) (by simp)
  refine ⟨makes, fun room => ?_, fun full other => ?_, fun full cancelled => ?_⟩
  · rw [offers, offerRecord_of_room c k n room, answer]
  · rw [offers, offerRecord_of_full c k n full, recordRefused_other c _ other]
  · subst cancelled
    rw [offers, offerRecord_of_full c _ n full, recordRefused_cancelled, answer]

/-- Settles O35: the record by stage and press, and the answer by the record's kind. -/
theorem pressesThatMakeRecords : Obligations.PressesThatMakeRecords := by
  intro c s ch n record outcome becomes picked completed
  have finished (list : List Point) : completed list :=
    ⟨fun t action => (applyAction_hold list t action).symm,
      fun t action => (applyAction_repeated list t action).symm,
      fun t action => (applyAction_once list t action).symm⟩
  refine ⟨fun stage => press_outcome ?_ fun t _ => rfl, fun stage => press_outcome ?_ fun t stands => ?_,
    fun stage => ⟨press_outcome ?_ fun t stands => recordAccepted_cancelled stands,
      fun target some more => press_outcome ?_ fun t stands => ?_,
      fun target some last => ⟨press_outcome ?_ fun t stands => recordAccepted_done stands, finished _⟩,
      fun polyline two => ⟨press_outcome ?_ fun t stands => recordAccepted_finish stands, finished _⟩⟩⟩
  · simp only [pressRecord, show (s.chan c).stage = _ from stage]
  · simp only [pressRecord, show (s.chan c).stage = _ from stage]
  · exact recordAccepted_anchor stands
  · simp only [pressRecord, show (s.chan c).stage = _ from stage]
    rfl
  · simp only [pressRecord, show (s.chan c).stage = _ from stage, show (s.chan c).target = _ from some]
    exact if_pos more
  · rw [recordAccepted_anchor stands, ← show (s.chan c).stage = _ from stage]
    rfl
  · simp only [pressRecord, show (s.chan c).stage = _ from stage, show (s.chan c).target = _ from some]
    exact if_neg (Nat.not_lt.mpr last)
  · simp only [pressRecord, show (s.chan c).stage = _ from stage]
    exact if_pos ⟨polyline, two⟩

end Sys2Proof.Machine
end

section
/-! The figure commands: ARM, CANCEL, RELEASE and CLEAR STALL (R105 to R110). -/
namespace Sys2Proof.Machine

/-! ## A command that acts on a figure and completes -/

theorem stepTo_port (c : Chan) (ch ch' : Channel) (s : State) (p : PortId) :
    (stepTo c ch ch' s).port p = { s.port p with
      latched := latching (if ch.stage = ch'.stage then [] else [.stageChanged c]) (s.port p).latched } := by
  rw [stepTo, raiseIf_port]
  simp only [decide_eq_true_eq, ite_not]
  rfl

@[simp] theorem stepTo_frame (c : Chan) (ch ch' : Channel) (s : State) :
    (stepTo c ch ch' s).stc = s.stc ∧ (stepTo c ch ch' s).view = s.view ∧
    (stepTo c ch ch' s).grid = s.grid ∧ (stepTo c ch ch' s).picks = s.picks ∧
    (stepTo c ch ch' s).overlay = s.overlay ∧ (stepTo c ch ch' s).link = s.link ∧
    (stepTo c ch ch' s).rest = s.rest ∧ (stepTo c ch ch' s).pickRaw = s.pickRaw ∧
    (stepTo c ch ch' s).pending = s.pending := by simp [stepTo]

theorem stepTo_chan (c : Chan) (ch ch' : Channel) (s : State) :
    (stepTo c ch ch' s).chan (otherChan c) = s.chan (otherChan c) ∧ (stepTo c ch ch' s).chan c = ch' := by
  simp [stepTo]

theorem accept_port_latched (p q : PortId) (s : State) : ((accept p s).port q).latched = (s.port q).latched := by
  cases p <;> cases q <;> rfl

/-- What a row answers that accepts a command, changes one channel's figure and completes. -/
theorem event_stepTo {i : Instr} {c : Chan} {ch' : Channel} {o : ParamBlock} {s : State} (due : NothingDue s)
    (effect : bodyOf i s = complete .a o .none (stepTo c (s.chan c) ch' (accept .a s))) :
    ∃ t, event (bodyOf i) s = .next t ∧ t = { s with ports := t.ports, chans := t.chans } ∧
      t.chan (otherChan c) = s.chan (otherChan c) ∧ t.chan c = ch' ∧
      PortsBecome .a (servedPort (s.port .a) o .none)
        (latching (if (s.chan c).stage = ch'.stage then [] else [.stageChanged c])) s t := by
  obtain ⟨other, same⟩ := stepTo_chan c (s.chan c) ch' (accept .a s)
  refine ⟨_, event_effect due effect, ?_, other, same, ?_⟩
  · exact state_eq_by_fields (ports := rfl)
  · exact portsBecome_complete fun q => by rw [stepTo_port, accept_port_latched]

/-- What a command answers that a channel's stage refuses. -/
theorem channel_refused {i : Instr} {f : FaultCode} {s : State} (due : NothingDue s)
    (effect : bodyOf i s = refuse .a f (accept .a s)) :
    ∃ t, event (bodyOf i) s = .next t ∧ t = { s with ports := t.ports } ∧
      PortsBecome .a (servedPort (s.port .a) .zero f) id s t :=
  event_setPort due (effect.trans (refuse_accept_eq .a f s))

/-! ## The ports and the queue after an offer -/

/-- The events of an offer to the Pick Queue (R115, R116, R118). -/
def offerEvents (s : State) : List Event :=
  if s.picks.records.length < 32 then
    if s.picks.records.length + 1 = s.picks.threshold.toNat then [.pickAvailable, .pickNearFull]
    else [.pickAvailable]
  else [.pickRefused]

theorem offerPick_port (r : PickRecord) (s : State) (p : PortId) : (offerPick r s).port p =
    { s.port p with latched := latching (offerEvents s) (s.port p).latched } := by
  unfold offerEvents
  by_cases room : s.picks.records.length < 32
  · rw [offerPick_of_room r room, raiseIf_port, port_joinPick, if_pos room]
    simp only [beq_iff_eq]
    split <;> rfl
  · rw [offerPick_of_full r (Nat.not_lt.mp room), port_raise, if_neg room]
    rfl

theorem offerPick_queue {s t : State} (r : PickRecord) (picks : t.picks = s.picks) (raw : t.pickRaw = s.pickRaw) :
    (offerPick r t).picks = (offerPick r s).picks ∧ (offerPick r t).pickRaw = (offerPick r s).pickRaw := by
  by_cases room : s.picks.records.length < 32
  · obtain ⟨left, -⟩ := (pickOfferAcceptsOrRefuses r t).1 (by rwa [picks])
    obtain ⟨right, -⟩ := (pickOfferAcceptsOrRefuses r s).1 room
    rw [left, right, picks]
    exact ⟨rfl, rfl⟩
  · rw [offerPick_of_full r (Nat.not_lt.mp room), offerPick_of_full r (by rw [picks]; exact Nat.not_lt.mp room)]
    exact ⟨picks, raw⟩

/-! ## ARM FIGURE (R108) -/

theorem template_ofCode_lowByte (t : Template) : Template.ofCode (lowByte t.code).toNat = some t := by
  cases t <;> rfl

theorem action_ofCode_of_range {b : Byte} (low : 1 ≤ b.toNat) (high : b.toNat ≤ 3) :
    Action.ofCode b.toNat =
      if b = 1 then some .hold else if b = 2 then some .repeated else some .once := by
  have named : b = 1 ∨ b = 2 ∨ b = 3 := by bv_omega
  rcases named with rfl | rfl | rfl <;> rfl

theorem armTarget_eq (t : Template) (n : Nat) : armTarget t n =
    match t with
    | .none => none
    | .line | .rect | .circle => some 2
    | .arc3 => some 3
    | .polyline => some n := by
  cases t <;> rfl

theorem armTemplate_eq (c : Chan) (t : Template) (i : ParamBlock) (s : State) :
    armTemplate c t i s = stepTo c (s.chan c) { s.chan c with
      stage := if t = .none then .idle else .armed, template := t, anchors := []
      target := armTarget t i.p2.toNat
      action := if t = .none then none else Action.ofCode i.p3.toNat } s :=
  setStage_setChan ..

theorem paramsOk_armFigure {c : Chan} {tpl : Template} {count act n : Byte}
    (polyline : tpl = .polyline → 2 ≤ count.toNat ∧ count.toNat ≤ 16)
    (action : tpl ≠ .none → 1 ≤ act.toNat ∧ act.toNat ≤ 3) :
    paramsOk .armFigure ⟨chanByte c, lowByte tpl.code, count, act, n⟩ = true := by
  have known (figure : tpl ≠ .none) : (Action.ofCode act.toNat).isSome = true := by
    rw [action_ofCode_of_range (action figure).1 (action figure).2]
    split
    · rfl
    · split <;> rfl
  have own : armOk ⟨chanByte c, lowByte tpl.code, count, act, n⟩ = true := by
    unfold armOk
    rw [template_ofCode_lowByte]
    cases tpl with
    | none => rfl
    | polyline => simp [polyline rfl, known]
    | _ => exact known Template.noConfusion
  refine paramsOk_iff.mpr ⟨fun _ => ?_, rfl, own⟩
  rw [chanOfByte_chanByte]
  rfl

/-- Settles O37: refused in BANDING and STALLED, armed in the other stages. -/
theorem armFigureArms : Obligations.ArmFigureArms := by
  intro c tpl count act n s ready polyline action ch
  have effect : bodyOf (.armFigure .a) s =
      acceptArm .a ⟨chanByte c, lowByte tpl.code, count, act, n⟩ c (accept .a s) :=
    issue_channel (op := .armFigure) (acceptArm .a) ready rfl rfl (paramsOk_armFigure polyline action)
  refine ⟨fun busy => channel_refused ready.1 (effect.trans (if_pos busy)), fun notBanding notStalled => ?_⟩
  have accepted := effect.trans (if_neg (not_or.mpr ⟨notBanding, notStalled⟩))
  rw [template_ofCode_lowByte] at accepted
  dsimp only at accepted
  rw [armTemplate_eq, armTarget_eq] at accepted
  have actions : (if tpl = .none then none else Action.ofCode act.toNat) =
      if tpl = .none then none
      else if act = 1 then some .hold else if act = 2 then some .repeated else some .once := by
    split
    · rfl
    · next figure => exact action_ofCode_of_range (action figure).1 (action figure).2
  rw [actions] at accepted
  exact event_stepTo ready.1 accepted

/-! ## CANCEL FIGURE and RELEASE FIGURE (R109, R110) -/

/-- The cancelled record, and its offer. -/
theorem offerRecord_cancelled_eq (c : Chan) (k : Nat) (s : State) : offerRecord c .cancelled k s =
    stepTo c (s.chan c) { s.chan c with stage := .armed, anchors := [] }
      (offerPick (makeRecord c .cancelled k s) s) := by
  have stands : (offerPick (makeRecord c .cancelled k s) s).chan c = s.chan c := offerPick_chan ..
  by_cases room : s.picks.records.length < 32
  · rw [offerRecord_of_room c _ k room, recordAccepted_cancelled stands]
  · rw [offerRecord_of_full c _ k (Nat.not_lt.mp room), recordRefused_cancelled,
      recordAccepted_cancelled stands]

theorem acceptCancel_offers {p : PortId} {c : Chan} {s : State}
    (banded : (s.chan c).stage = .banding ∨ (s.chan c).stage = .hold) :
    acceptCancel p c s = complete p ⟨lowByte (s.chan c).stage.code,
        if s.picks.records.length < 32 then 1 else 2, 0, 0, 0⟩ .none
      (stepTo c (s.chan c) { s.chan c with stage := .armed, anchors := [] }
        (offerPick (makeRecord c .cancelled (s.chan c).anchors.length s) s)) := by
  rw [← offerRecord_cancelled_eq]
  have answer : (if picksHaveRoom s = true then (1 : Byte) else 2) =
      if s.picks.records.length < 32 then 1 else 2 := if_congr (picksHaveRoom_iff s) rfl rfl
  unfold acceptCancel
  rw [← answer]
  rcases banded with stage | stage <;> simp only [stage] <;> rfl

section
variable {c : Chan} {n : Byte} {s : State} (ready : Ready .a ⟨chanByte c, 0, 0, 0, n⟩ s)
include ready

theorem bodyOf_cancelFigure : bodyOf (.cancelFigure .a) s = acceptCancel .a c (accept .a s) :=
  issue_channel (op := .cancelFigure) (fun _ => acceptCancel .a) ready rfl rfl (by cases c <;> rfl)

theorem cancelFigure_settled (settled : (s.chan c).stage = .idle ∨ (s.chan c).stage = .armed) :
    ∃ t, exec (.cancelFigure .a) s = .next t ∧ t = { s with ports := t.ports } ∧
      PortsBecome .a (servedPort (s.port .a) ⟨lowByte (s.chan c).stage.code, 0, 0, 0, 0⟩ .none) id s t := by
  refine event_setPort ready.1 ((bodyOf_cancelFigure ready).trans ?_)
  unfold acceptCancel
  rcases settled with stage | stage <;> simp only [chan_accept, stage] <;> exact complete_accept_eq ..

theorem cancelFigure_stalled (stalled : (s.chan c).stage = .stalled) :
    ∃ t, exec (.cancelFigure .a) s = .next t ∧ t = { s with ports := t.ports } ∧
      PortsBecome .a (servedPort (s.port .a) .zero .stage) id s t := by
  refine channel_refused ready.1 ((bodyOf_cancelFigure ready).trans ?_)
  unfold acceptCancel
  simp only [chan_accept, stalled]

theorem cancelFigure_offers (banded : (s.chan c).stage = .banding ∨ (s.chan c).stage = .hold) :
    let offered := offerPick (makeRecord c .cancelled (s.chan c).anchors.length s) s
    ∃ t, exec (.cancelFigure .a) s = .next t ∧
      t = { s with ports := t.ports, chans := t.chans, picks := offered.picks, pickRaw := offered.pickRaw } ∧
      t.chan (otherChan c) = s.chan (otherChan c) ∧
      t.chan c = { s.chan c with stage := .armed, anchors := [] } ∧
      PortsBecome .a (servedPort (s.port .a) ⟨lowByte (s.chan c).stage.code,
        if s.picks.records.length < 32 then 1 else 2, 0, 0, 0⟩ .none)
        (latching (offerEvents s ++ [.stageChanged c])) s t := by
  have effect : bodyOf (.cancelFigure .a) s = complete .a ⟨lowByte (s.chan c).stage.code,
        if s.picks.records.length < 32 then 1 else 2, 0, 0, 0⟩ .none
      (stepTo c (s.chan c) { s.chan c with stage := .armed, anchors := [] }
        (offerPick (makeRecord c .cancelled (s.chan c).anchors.length s) (accept .a s))) :=
    (bodyOf_cancelFigure ready).trans (acceptCancel_offers (s := accept .a s) banded)
  obtain ⟨picks, raw⟩ := offerPick_queue (s := s) (t := accept .a s)
    (makeRecord c .cancelled (s.chan c).anchors.length s) rfl rfl
  obtain ⟨other, same⟩ := stepTo_chan c (s.chan c) { s.chan c with stage := .armed, anchors := [] }
    (offerPick (makeRecord c .cancelled (s.chan c).anchors.length s) (accept .a s))
  have moves : (s.chan c).stage ≠ .armed := by
    rcases banded with stage | stage <;> rw [stage] <;> exact Stage.noConfusion
  refine ⟨_, event_effect ready.1 effect, ?_, ?_, same, portsBecome_complete fun q => ?_⟩
  · exact state_eq_by_fields (ports := rfl) (picks := by simpa using picks) (pickRaw := by simpa using raw)
  · exact other.trans (offerPick_chan ..)
  · rw [stepTo_port, offerPick_port, accept_port_latched, latching_append]
    dsimp only
    rw [if_neg moves]
    rfl

end

/-- The channel a release leaves (R110). -/
def releasedChannel (toIdle : Bool) (ch : Channel) : Channel :=
  if toIdle then
    { ch with stage := .idle, anchors := [], template := .none, target := none, action := none }
  else { ch with stage := .armed, anchors := [] }

theorem releaseHeld_eq (c : Chan) (toIdle : Bool) (s : State) :
    releaseHeld c toIdle s = stepTo c (s.chan c) (releasedChannel toIdle (s.chan c)) s := by
  unfold releaseHeld
  rw [clearAnchors_eq_setChan rfl]
  cases toIdle with
  | false => exact setStage_setChan ..
  | true =>
    rw [dropTemplate, updChan_setChan]
    exact setStage_setChan ..

section
variable {c : Chan} {n : Byte} {toIdle : Bool} {s : State}
  (ready : Ready .a ⟨chanByte c, if toIdle then 1 else 0, 0, 0, n⟩ s)
include ready

theorem bodyOf_releaseFigure : bodyOf (.releaseFigure .a) s =
    acceptRelease .a ⟨chanByte c, if toIdle then 1 else 0, 0, 0, n⟩ c (accept .a s) :=
  issue_channel (op := .releaseFigure) (acceptRelease .a) ready rfl rfl (by cases c <;> cases toIdle <;> rfl)

theorem releaseFigure_held (held : (s.chan c).stage = .hold) :
    ∃ t, exec (.releaseFigure .a) s = .next t ∧ t = { s with ports := t.ports, chans := t.chans } ∧
      t.chan (otherChan c) = s.chan (otherChan c) ∧ t.chan c = releasedChannel toIdle (s.chan c) ∧
      PortsBecome .a (servedPort (s.port .a) ⟨lowByte (s.chan c).anchors.length, 0, 0, 0, 0⟩ .none)
        (latching [.stageChanged c]) s t := by
  have moves : (s.chan c).stage ≠ (releasedChannel toIdle (s.chan c)).stage := by
    rw [held]
    cases toIdle <;> exact Stage.noConfusion
  have asked : (if toIdle then (1 : Byte) else 0).getLsbD 0 = toIdle := by cases toIdle <;> rfl
  have accepted := (bodyOf_releaseFigure ready).trans (if_pos held)
  rw [asked, releaseHeld_eq, chan_accept] at accepted
  have answer := event_stepTo ready.1 accepted
  rw [if_neg moves] at answer
  exact answer

theorem releaseFigure_refused (other : (s.chan c).stage ≠ .hold) :
    ∃ t, exec (.releaseFigure .a) s = .next t ∧ t = { s with ports := t.ports } ∧
      PortsBecome .a (servedPort (s.port .a) .zero .stage) id s t :=
  channel_refused ready.1 ((bodyOf_releaseFigure ready).trans (if_neg other))

end

/-- Settles O38: the cancel by its three groups of stages, the release in HOLD and elsewhere. -/
theorem cancelAndReleaseFollowStage : Obligations.CancelAndReleaseFollowStage := by
  intro c n s ch
  refine ⟨fun ready => ⟨cancelFigure_settled ready, fun banded => ?_, cancelFigure_stalled ready⟩,
    fun toIdle ready => ⟨releaseFigure_held ready, releaseFigure_refused ready⟩⟩
  obtain ⟨t, run, frame, other, same, becomes⟩ := cancelFigure_offers ready banded
  have events : latching (offerEvents s ++ [.stageChanged c]) = fun l =>
      if s.picks.records.length < 32 then
        latching ((if s.picks.records.length + 1 = s.picks.threshold.toNat
          then [.pickAvailable, .pickNearFull] else [.pickAvailable]) ++ [.stageChanged c]) l
      else latching [.pickRefused, .stageChanged c] l := by
    funext l
    unfold offerEvents
    split <;> rfl
  exact ⟨t, run, frame, other, same, events ▸ becomes⟩

/-! ## CLEAR STALL (R105, R106) -/

theorem endStall_of_stalled {c : Chan} {r : ReturnStage} {s : State} (stalled : (s.chan c).stage = .stalled) :
    endStall c r s = raise (.stageChanged c)
      (s.setChan c { s.chan c with stage := r.toStage, ret := none, saved := none }) := by
  have moves : decide ((s.chan c).stage ≠ r.toStage) = true := by
    rw [stalled]
    cases r <;> rfl
  refine (setStage_setChan c { s.chan c with ret := none, saved := none } r.toStage s).trans ?_
  rw [moves]
  rfl

theorem acceptClearStall_of_stalled {p : PortId} {c : Chan} {r : ReturnStage} {s : State}
    (stalled : (s.chan c).stage = .stalled) (ret : (s.chan c).ret = some r) :
    acceptClearStall p c s =
      complete p (stallOutputs c r (s.chan c).saved (endStall c r s) (replay c (s.chan c).saved (endStall c r s)))
        .none (replay c (s.chan c).saved (endStall c r s)) := by
  unfold acceptClearStall
  simp only [stalled, ret]

theorem acceptClearStall_refused {p : PortId} {c : Chan} {s : State} (other : (s.chan c).stage ≠ .stalled) :
    acceptClearStall p c s = refuse p .stage s := by
  unfold acceptClearStall
  dsimp only
  split
  · next stalled _ => exact absurd stalled other
  all_goals rfl

/-- The code of a saved press among the outputs (R195). -/
def savedCode : Option Press → Byte
  | none => 0
  | some .pick => 1
  | some .finish => 2
  | some .cancel => 3

/-- The code of the record a replay made among the outputs (R195). -/
def madeCode : Option (RecordKind × Nat) → Byte
  | none => 7
  | some (k, _) => lowByte k.code

theorem stallOutputs_eq (c : Chan) (r : ReturnStage) (pr : Option Press) (before after : State) :
    stallOutputs c r pr before after =
      { p0 := lowByte r.toStage.code, p1 := savedCode pr
        p2 := madeCode (pr.bind (pressRecord (before.chan c)))
        p3 := if pr.bind (pressRecord (before.chan c)) ≠ none ∧ 32 ≤ before.picks.records.length then 1 else 0
        count := lowByte (after.chan c).stage.code } := by
  have saved : lowByte ((pr.map Press.code).getD 0) = savedCode pr := by
    rcases pr with _ | p
    · rfl
    · cases p <;> rfl
  have full : picksHaveRoom before = false ↔ 32 ≤ before.picks.records.length := by
    rw [Bool.eq_false_iff, ne_eq, picksHaveRoom_iff, Nat.not_lt]
  unfold stallOutputs
  dsimp only
  rw [saved]
  simp only [full, Option.isSome_iff_ne_none]
  cases pr.bind (pressRecord (before.chan c)) <;> rfl

/-- Settles O39: the stall ends, and the saved press is handled in the return stage. -/
theorem clearStallReplays : Obligations.ClearStallReplays := by
  intro c n s ready ch
  have effect : bodyOf (.clearStall .a) s = acceptClearStall .a c (accept .a s) :=
    issue_channel (op := .clearStall) (fun _ => acceptClearStall .a) ready rfl rfl (by cases c <;> rfl)
  refine ⟨rfl, fun o u => rfl, fun other =>
    channel_refused ready.1 (effect.trans (acceptClearStall_refused other)), fun r stalled ret => ?_⟩
  intro restored ended replayed made
  have restores : r.toStage = restored := by cases r <;> rfl
  have ends : endStall c r (accept .a s) = ended := by
    rw [endStall_of_stalled (s := accept .a s) stalled, restores]
    rfl
  have replays : replay c ch.saved ended = replayed := by
    unfold replayed replay
    cases ch.saved <;> rfl
  have outputs : stallOutputs c r ch.saved ended replayed =
      { p0 := lowByte restored.code
        p1 := (match ch.saved with
          | none => 0 | some .pick => 1 | some .finish => 2 | some .cancel => 3)
        p2 := (match made with | none => 7 | some (k, _) => lowByte k.code)
        p3 := (if made ≠ none ∧ 32 ≤ s.picks.records.length then 1 else 0)
        count := lowByte (replayed.chan c).stage.code } := by
    have asked : ch.saved.bind (pressRecord (ended.chan c)) = made := by
      unfold made
      cases ch.saved <;> rfl
    rw [stallOutputs_eq, asked, restores]
    rfl
  have cleared := effect.trans (acceptClearStall_of_stalled (s := accept .a s) stalled ret)
  rw [ends] at cleared
  change bodyOf (.clearStall .a) s =
    complete .a (stallOutputs c r ch.saved ended (replay c ch.saved ended)) .none (replay c ch.saved ended) at cleared
  rw [replays, outputs] at cleared
  exact event_effect ready.1 cleared

end Sys2Proof.Machine
end

section
/-! READ PICKS: the head record is presented, read word by word, and leaves the queue (R118 to R122). -/
namespace Sys2Proof.Machine

/-- The port once the last word of a record has been read, before its record is counted (R173). -/
def lastWordRead (p : PortId) (c : Progress) (w : Word) (s : State) : State :=
  s.setPort p { s.port p with
    dreq := false, burstAttn := false, readData := w, cmd := some { c with words := [] } }

section
variable {p : PortId} {c : Progress} {w : Word} {s : State} (phase : (s.port p).state = .dataOut)
  (dreq : (s.port p).dreq = true) (own : (s.port p).cmd = some c) (last : c.words = [w])
include phase dreq own last

theorem bodyOf_dataRead_last :
    bodyOf (.dataRead p) s = recordRead p c.op (lastWordRead p c w s) :=
  (if_pos ⟨phase, dreq⟩).trans (moveWordOut_last own last)

end

/-- The port once a record has been read and counted. -/
theorem countRecord_lastWordRead (p : PortId) (c : Progress) (w : Word) (s : State) :
    countRecord p (lastWordRead p c w s) = s.setPort p { s.port p with
      dreq := false, burstAttn := false, readData := w
      cmd := some (recordCounted c (s.port p).burst.toNat) } := by
  cases p <;> rfl

/-- The next record is presented to a command whose DREQ the edit queue cannot withhold (R173). -/
theorem present_eq {p : PortId} {words : List Word} {c : Progress} {s : State} (own : (s.port p).cmd = some c)
    (other : isTableCommand c.op = false) : present p words s = s.setPort p { s.port p with
      dreq := true, burstAttn := c.burstPos == 0, cmd := some { c with words := words } } := by
  have shown : updCmd p (fun d => { d with words := words }) s =
      s.setPort p { s.port p with cmd := some { c with words := words } } := by
    rw [updCmd, State.updPort, own]
    rfl
  have free : withholds c.op (s.setPort p { s.port p with cmd := some { c with words := words } }) = false :=
    withholds_other other
  rw [present, shown, openRecord_eq (c := { c with words := words }) (by rw [port_setPort_same]), free]
  cases p <;> rfl

/-! ## The record leaves the queue -/

theorem removePick_eq {r : PickRecord} {rest : List PickRecord} {s : State} (held : s.picks.records = r :: rest) :
    removePick s = { s with ports := (removePick s).ports, pickRaw := decide (rest ≠ [])
                            picks := { s.picks with records := rest } } := by
  have some : (!rest.isEmpty) = decide (rest ≠ []) := by cases rest <;> rfl
  unfold removePick followPicks
  rw [held, List.tail_cons]
  dsimp only
  rw [some]

theorem removePick_port {r : PickRecord} {rest : List PickRecord} {s : State} (held : s.picks.records = r :: rest)
    (p : PortId) : (removePick s).port p =
      { s.port p with latched := withPickAvailable (decide (rest ≠ [])) (s.port p).latched } := by
  have some : (!rest.isEmpty) = decide (rest ≠ []) := by cases rest <;> rfl
  unfold removePick
  rw [held, List.tail_cons, port_followPicks]
  dsimp only
  rw [some]
  rfl

/-! ## READ PICKS -/

theorem headPickWords_cons {r : PickRecord} {rest : List PickRecord} {s : State}
    (held : s.picks.records = r :: rest) : headPickWords s = pickLayout r := by
  unfold headPickWords
  rw [held]
  exact pickRecord_toWords r

theorem readPicks_empty {s : State} {n : Byte} (ready : Ready .a ⟨0, 0, 0, 0, n⟩ s)
    (empty : s.picks.records = []) :
    ∃ t, exec (.readPicks .a) s = .next t ∧ t = { s with ports := t.ports } ∧
      PortsBecome .a (servedPort (s.port .a) .zero .none) id s t := by
  refine issue_setPort (op := .readPicks) (body := acceptReadPicks .a) ready ?_
  have none : (accept .a s).picks.records.isEmpty = true := List.isEmpty_iff.mpr empty
  exact (if_pos none).trans (complete_accept_eq ..)

theorem readPicks_opens {s : State} {n : Byte} {r : PickRecord} {rest : List PickRecord}
    (ready : Ready .a ⟨0, 0, 0, 0, n⟩ s) (held : s.picks.records = r :: rest) :
    ∃ t, exec (.readPicks .a) s = .next t ∧ t = { s with ports := t.ports } ∧
      PortsBecome .a (openedPort (s.port .a) .dataOut (.start .readPicks ⟨0, 0, 0, 0, n⟩
        (if n = 0 then 256 else n.toNat) (pickLayout r))) id s t := by
  refine issue_setPort (op := .readPicks) (body := acceptReadPicks .a) ready ?_
  have some : ¬ (accept .a s).picks.records.isEmpty = true := by
    rw [accept_picks, held]
    exact Bool.noConfusion
  refine (if_neg some).trans ?_
  rw [headPickWords_cons (s := accept .a s) held]
  exact startDataOut_accept _ _ _ s rfl

/-- The state once the head record has been read to its last word, counted and removed. -/
def recordTaken (s : State) (c : Progress) (w : Word) : State :=
  removePick (countRecord .a (lastWordRead .a c w s))

section
variable {s : State} {c : Progress} {w : Word} {r : PickRecord} {rest : List PickRecord}
  (held : s.picks.records = r :: rest)
include held

theorem recordTaken_eq : recordTaken s c w = { s with
    ports := (recordTaken s c w).ports, pickRaw := decide (rest ≠ []), picks := { s.picks with records := rest } } :=
  removePick_eq (s := countRecord .a (lastWordRead .a c w s)) held

theorem recordTaken_port_own : (recordTaken s c w).port .a = { s.port .a with
    dreq := false, burstAttn := false, readData := w, cmd := some (recordCounted c (s.port .a).burst.toNat)
    latched := withPickAvailable (decide (rest ≠ [])) (s.port .a).latched } := by
  rw [recordTaken, removePick_port (s := countRecord .a (lastWordRead .a c w s)) held,
    countRecord_lastWordRead, port_setPort_same]

theorem recordTaken_port_other : (recordTaken s c w).port .b = { s.port .b with
    latched := withPickAvailable (decide (rest ≠ [])) (s.port .b).latched } := by
  rw [recordTaken, removePick_port (s := countRecord .a (lastWordRead .a c w s)) held]
  rfl

theorem pickRead_completes (done : c.total ≤ c.moved + 1 ∨ rest = []) :
    pickRead .a (lastWordRead .a c w s) =
      complete .a (pickOutputs (c.moved + 1) rest.length 0) .none (recordTaken s c w) := by
  have records : (recordTaken s c w).picks.records = rest := by rw [recordTaken_eq held]
  have own : ((recordTaken s c w).port .a).cmd = some (recordCounted c (s.port .a).burst.toNat) := by
    rw [recordTaken_port_own held]
  have ends : (recordCounted c (s.port .a).burst.toNat).total ≤ (recordCounted c (s.port .a).burst.toNat).moved ∨
      (recordTaken s c w).picks.records.isEmpty = true := by
    rw [records, List.isEmpty_iff]
    exact done
  unfold pickRead
  rw [show removePick (countRecord .a (lastWordRead .a c w s)) = recordTaken s c w from rfl]
  dsimp only
  rw [own]
  dsimp only
  rw [if_pos ends, records]
  rfl

theorem pickRead_presents {r' : PickRecord} {rest' : List PickRecord} (op : c.op = .readPicks)
    (more : c.moved + 1 < c.total) (left : rest = r' :: rest') :
    pickRead .a (lastWordRead .a c w s) = (recordTaken s c w).setPort .a { (recordTaken s c w).port .a with
      dreq := true, burstAttn := (c.burstPos + 1) % (s.port .a).burst.toNat == 0
      cmd := some { recordCounted c (s.port .a).burst.toNat with words := pickLayout r' } } := by
  have records : (recordTaken s c w).picks.records = r' :: rest' := by rw [recordTaken_eq held, left]
  have own : ((recordTaken s c w).port .a).cmd = some (recordCounted c (s.port .a).burst.toNat) := by
    rw [recordTaken_port_own held]
  have goes : ¬ ((recordCounted c (s.port .a).burst.toNat).total ≤ (recordCounted c (s.port .a).burst.toNat).moved ∨
      (recordTaken s c w).picks.records.isEmpty = true) := by
    rw [records]
    exact not_or.mpr ⟨Nat.not_le.mpr more, Bool.noConfusion⟩
  unfold pickRead
  rw [show removePick (countRecord .a (lastWordRead .a c w s)) = recordTaken s c w from rfl]
  dsimp only
  rw [own]
  dsimp only
  rw [if_neg goes, headPickWords_cons records, present_eq own (by rw [recordCounted, op]; rfl)]
  rfl

end

/-- Settles O40: the acceptance presents the head; the last word of a record takes it from the queue. -/
theorem readPicksTransfersHead : Obligations.ReadPicksTransfersHead := by
  refine ⟨fun s n ready => ⟨readPicks_empty ready, fun r rest => readPicks_opens ready⟩,
    showsPicks_pickOutputs, ?_⟩
  intro s c w r rest due phase dreq own op last held l
  have read : bodyOf (.dataRead .a) s = pickRead .a (lastWordRead .a c w s) := by
    rw [bodyOf_dataRead_last phase dreq own last, op]
    rfl
  have other := recordTaken_port_other (c := c) (w := w) held
  by_cases done : c.total ≤ c.moved + 1 ∨ rest = []
  · rw [pickRead_completes held done] at read
    obtain ⟨t, run, frame, becomes⟩ := event_becomes (p := .a) (l := l)
      (q := { completedPort (s.port .a) (pickOutputs (c.moved + 1) rest.length 0) .none with readData := w })
      due read (by rw [port_complete_same, recordTaken_port_own held]; rfl) ((port_complete_other ..).trans other)
    refine ⟨t, run, frame.trans (congrArg (fun v : State => { v with ports := t.ports }) (recordTaken_eq held)),
      fun _ => becomes, fun r' rest' more left => ?_⟩
    rcases done with all | none
    · exact absurd all (Nat.not_le.mpr more)
    · exact absurd (left.symm.trans none) (List.cons_ne_nil _ _)
  · obtain ⟨notAll, nonempty⟩ := not_or.mp done
    obtain ⟨r', rest', left⟩ := List.exists_cons_of_ne_nil nonempty
    rw [pickRead_presents held op (Nat.not_le.mp notAll) left] at read
    obtain ⟨t, run, frame, becomes⟩ := event_becomes (p := .a) (l := l)
      (q := { s.port .a with
        readData := w, burstAttn := (c.burstPos + 1) % (s.port .a).burst.toNat == 0
        cmd := some { recordCounted c (s.port .a).burst.toNat with words := pickLayout r' } })
      due read (by rw [port_setPort_same, recordTaken_port_own held, ← dreq]) other
    refine ⟨t, run, frame.trans (congrArg (fun v : State => { v with ports := t.ports }) (recordTaken_eq held)),
      fun ends => absurd ends done, fun r'' rest'' _ same => ?_⟩
    cases left.symm.trans same
    exact becomes

end Sys2Proof.Machine
end

section
/-! The overlay frames: FSYNC and the completion of a build (R128, R131 to R144). -/
namespace Sys2Proof.Machine

/-! ## Swaps and builds -/

theorem swapBuffer_of_free_or_front {b : Buffer} (h : b.state = .free ∨ b.state = .front) :
    swapBuffer b = .free := by
  cases b with
  | free | front => rfl
  | building | ready | frontPinned => simp [Buffer.state] at h

section
variable {s : State} {f : Frame}

theorem swap_startBuild_first (x : s.overlay.bufX = .ready f)
    (y : s.overlay.bufY.state = .free ∨ s.overlay.bufY.state = .front) :
    startBuild (swap s) = { s with overlay := { s.overlay with
      frameNo := s.overlay.frameNo + 1, bufX := .front f, bufY := .building (takeSnapshot s) } } := by
  unfold startBuild swap
  dsimp only
  rw [x, swapBuffer_of_free_or_front y, swapBuffer, if_neg Buffer.noConfusion, if_pos rfl]
  rfl

theorem swap_startBuild_second (y : s.overlay.bufY = .ready f)
    (x : s.overlay.bufX.state = .free ∨ s.overlay.bufX.state = .front) :
    startBuild (swap s) = { s with overlay := { s.overlay with
      frameNo := s.overlay.frameNo + 1, bufX := .building (takeSnapshot s), bufY := .front f } } := by
  unfold startBuild swap
  dsimp only
  rw [y, swapBuffer_of_free_or_front x, if_pos rfl]
  rfl

end

/-! ## FSYNC (R144) -/

theorem frameSync_swaps {s : State} (ready : anyReady s.overlay = true) (free : anyPinned s.overlay = false) :
    frameSync s = startBuild (swap s) :=
  (if_pos ready).trans (if_neg (by rw [free]; exact Bool.noConfusion))

theorem frameSync_pends {s : State} (ready : anyReady s.overlay = true) (pinned : anyPinned s.overlay = true) :
    frameSync s = raise .frameRepeat { s with overlay := { s.overlay with swapPending := true } } :=
  (if_pos ready).trans (if_pos pinned)

theorem frameSync_waits {s : State} (none : anyReady s.overlay = false) (building : anyBuilding s.overlay = true) :
    frameSync s = raise .frameRepeat s :=
  (if_neg (by rw [none]; exact Bool.noConfusion)).trans (if_pos building)

theorem frameSync_builds {s : State} (x : s.overlay.bufX = .free) (y : s.overlay.bufY = .free) :
    frameSync s = raise .frameRepeat { s with overlay := { s.overlay with
      frameNo := s.overlay.frameNo + 1, bufX := .building (takeSnapshot s) } } := by
  have notReady : ¬ anyReady s.overlay = true := by simp [anyReady, x, y, Buffer.readyFrame]
  have notBuilding : ¬ anyBuilding s.overlay = true := by simp [anyBuilding, x, y, Buffer.isBuilding]
  refine (if_neg notReady).trans ((if_neg notBuilding).trans ?_)
  rw [startBuild, if_pos x]
  rfl

/-- Settles O41: the swap where a READY buffer is unpinned, and FRAME_REPEAT in the other cases. -/
theorem fsyncFollowsBuffers : Obligations.FsyncFollowsBuffers := by
  intro s due o n
  refine ⟨⟨rfl, rfl, rfl, fun c => ?_⟩, fun f ready unpinned pairs => ?_, fun ready pinned => ?_,
    fun none building => ?_, fun x y => ?_⟩
  · cases c <;> exact ⟨rfl, rfl, rfl, rfl, rfl, rfl, rfl, fun _ => rfl⟩
  · have any : anyReady o = true := by
      rcases ready with ready | ready <;> simp [anyReady, ready, Buffer.readyFrame]
    have syncs : bodyOf .fsync s = startBuild (swap s) := frameSync_swaps any unpinned
    rcases ready with x | y
    · have other : o.bufY.state = .free ∨ o.bufY.state = .front := by simpa [x, Buffer.state] using pairs
      rw [swap_startBuild_first x other] at syncs
      refine ⟨_, event_effect due syncs, portsBecome_driveAttention rfl rfl, ?_⟩
      rw [if_pos x, if_pos x]
      rfl
    · have other : o.bufX.state = .free ∨ o.bufX.state = .front := by simpa [y, Buffer.state] using pairs
      have notReady : o.bufX ≠ .ready f := fun x => by simp [x, Buffer.state] at other
      rw [swap_startBuild_second y other] at syncs
      refine ⟨_, event_effect due syncs, portsBecome_driveAttention rfl rfl, ?_⟩
      rw [if_neg notReady, if_neg notReady]
      rfl
  · have syncs : bodyOf .fsync s = _ := frameSync_pends ready pinned
    exact ⟨_, event_effect due syncs, portsBecome_driveAttention rfl rfl, rfl⟩
  · have syncs : bodyOf .fsync s = _ := frameSync_waits none building
    exact ⟨_, event_effect due syncs, portsBecome_driveAttention rfl rfl, rfl⟩
  · have syncs : bodyOf .fsync s = _ := frameSync_builds x y
    exact ⟨_, event_effect due syncs, portsBecome_driveAttention rfl rfl, rfl⟩

end Sys2Proof.Machine
end

section
/-! The completion of a build, and what it draws (R128, R133 to R142). -/
namespace Sys2Proof.Machine

/-! ## What a channel contributes -/

theorem contributes_iff {k : ChanSnapshot} :
    contributes k = true ↔ k.state = .tracking ∨ k.state = .away := by
  simp [contributes]

theorem drawnStage_of_armed {k : ChanSnapshot}
    (h : k.stage = .armed ∨ (k.stage = .stalled ∧ k.ret = some .armed)) : drawnStage k = .armed := by
  unfold drawnStage
  rcases h with stage | ⟨stage, ret⟩
  · rw [stage]
  · rw [stage, ret]

theorem drawnStage_of_banding {k : ChanSnapshot}
    (h : k.stage = .banding ∨ (k.stage = .stalled ∧ k.ret = some .banding)) : drawnStage k = .banding := by
  unfold drawnStage
  rcases h with stage | ⟨stage, ret⟩
  · rw [stage]
  · rw [stage, ret]

theorem drawnStage_of_hold {k : ChanSnapshot} (stage : k.stage = .hold) : drawnStage k = .hold := by
  unfold drawnStage
  rw [stage]

theorem drawnStage_of_idle {k : ChanSnapshot} (stage : k.stage = .idle) : drawnStage k = .idle := by
  unfold drawnStage
  rw [stage]

/-! ## The tiers -/

theorem crosshairTier_of_tracking {k : ChanSnapshot} (st : Style) (c : Chan) (h : k.state = .tracking) :
    crosshairTier st c k = [{ shape := .crosshair k.snapped st.form, chan := c, live := true }] := if_pos h

theorem markerTier_of_tracking {k : ChanSnapshot} (c : Chan) (h : k.state = .tracking) :
    markerTier c k = (k.hitKind.map fun kind =>
      ({ shape := .marker k.snapped kind, chan := c, live := true } : Stroke)).toList := by
  unfold markerTier
  rw [h]
  cases k.hitKind <;> rfl

theorem markerTier_of_not_tracking {k : ChanSnapshot} (c : Chan) (h : k.state ≠ .tracking) :
    markerTier c k = [] := by
  unfold markerTier
  split
  · next tracking _ => exact absurd tracking h
  · rfl

/-- Tiers 3 to 5 are empty where the channel does not contribute or draws no anchors. -/
theorem tiers_of_quiet {k : ChanSnapshot} (st : Style) (c : Chan)
    (h : contributes k = false ∨ drawnStage k = .armed ∨ drawnStage k = .idle) :
    figureTier st c k = [] ∧ segmentTier c k = [] ∧ tickTier st c k = [] := by
  have noAnchors : drawsAnchors k = false := by
    unfold drawsAnchors
    rcases h with h | h | h <;> rw [h]
    · rfl
    · exact Bool.and_false _
    · exact Bool.and_false _
  refine ⟨?_, ?_, ?_⟩
  · unfold figureTier
    split
    · rfl
    · next contributing =>
      rcases h with h | h | h
      · exact absurd h contributing
      · rw [h]
      · rw [h]
  · rw [segmentTier, noAnchors]
    rfl
  · rw [tickTier, noAnchors]
    rfl

section
variable {st : Style} {c : Chan} {k : ChanSnapshot} (shown : contributes k = true)
include shown

theorem figureTier_of_banding (banding : drawnStage k = .banding) :
    figureTier st c k = ((bandShape k.template k.anchors k.snapped st.band).map fun sh =>
      ({ shape := sh, chan := c, live := true } : Stroke)).toList := by
  unfold figureTier
  rw [if_neg (by rw [shown]; exact Bool.noConfusion), banding]

theorem figureTier_of_hold (hold : drawnStage k = .hold) :
    figureTier st c k = ((heldShape k.template k.anchors).map fun sh =>
      ({ shape := sh, chan := c, live := false } : Stroke)).toList := by
  unfold figureTier
  rw [if_neg (by rw [shown]; exact Bool.noConfusion), hold]

theorem drawsAnchors_of_stage (stage : drawnStage k = .banding ∨ drawnStage k = .hold) :
    drawsAnchors k = true := by
  unfold drawsAnchors
  rw [shown]
  rcases stage with stage | stage <;> rw [stage] <;> rfl

end

theorem segmentTier_of_anchors {c : Chan} {k : ChanSnapshot} (draws : drawsAnchors k = true) :
    (k.template ≠ .polyline → segmentTier c k = []) ∧
    (k.template = .polyline → segmentTier c k = (k.anchors.zip k.anchors.tail).map fun ab =>
      { shape := .segment ab.1 ab.2 .solid, chan := c, live := false }) := by
  unfold segmentTier
  rw [draws]
  refine ⟨fun other => if_neg (by simpa using other), fun polyline => ?_⟩
  rw [if_pos (by simpa using polyline)]
  exact segments_eq_zip ..

theorem tickTier_of_anchors {st : Style} {c : Chan} {k : ChanSnapshot} (draws : drawsAnchors k = true) :
    tickTier st c k =
      if st.ticks = true then k.anchors.map fun a => { shape := .tick a, chan := c, live := false } else [] := by
  unfold tickTier
  rw [draws, Bool.true_and]

/-! ## The completion -/

theorem finishBuffer_of_other {b : Buffer} (h : b.state ≠ .building) :
    finishBuffer b = b ∧ truncates b = false := by
  refine build_of_not_building fun n building => h ?_
  rw [building]
  rfl

theorem completeBuild_first {s : State} {n : Snapshot} (x : s.overlay.bufX = .building n)
    (y : s.overlay.bufY.state ≠ .building) : completeBuild s = raiseIf (assemble n).truncated .frameTruncated
      { s with overlay := { s.overlay with bufX := .ready (assemble n) } } := by
  obtain ⟨same, whole⟩ := finishBuffer_of_other y
  unfold completeBuild
  rw [x, same, whole, Bool.or_false]
  rfl

theorem completeBuild_second {s : State} {n : Snapshot} (y : s.overlay.bufY = .building n)
    (x : s.overlay.bufX.state ≠ .building) : completeBuild s = raiseIf (assemble n).truncated .frameTruncated
      { s with overlay := { s.overlay with bufY := .ready (assemble n) } } := by
  obtain ⟨same, whole⟩ := finishBuffer_of_other x
  unfold completeBuild
  rw [y, same, whole, Bool.false_or]
  rfl

theorem assemble_truncated_iff (n : Snapshot) :
    (assemble n).truncated = true ↔ 48 < (allStrokes n).length := decide_eq_true_iff

theorem blank_iff (n : Snapshot) (c : Chan) :
    (assemble n).blank.get c = true ↔ (n.chans.get c).state = .resting := by
  cases c <;> exact beq_iff_eq

/-- What the completion of a build answers, the buffers left as `o` has them. -/
theorem buildCompletion_answers {s : State} {n : Snapshot} {o : Overlay} (due : NothingDue s)
    (effect : completeBuild s = raiseIf (assemble n).truncated .frameTruncated { s with overlay := o }) :
    ∃ t, exec .buildCompletion s = .next t ∧ t = { s with ports := t.ports, overlay := o } ∧
      PortsKept (latching (if (assemble n).truncated = true then [.frameTruncated] else [])) s t :=
  ⟨_, event_effect (i := .buildCompletion) due effect, state_eq_by_fields (ports := rfl),
    portsBecome_driveAttention (raiseIf_port ..) (raiseIf_port ..)⟩

/-- Settles O42: the tiers by the drawn stage, and the frame as the first strokes of all. -/
theorem buildCompletesWithinBudget : Obligations.BuildCompletesWithinBudget := by
  refine ⟨fun n => rfl, fun st c k => ?_, fun s n due building => ?_⟩
  · intro drawnAs banding shown live still
    have contributing (h : shown) : contributes k = true := contributes_iff.mpr h
    refine ⟨fun tracking => ⟨crosshairTier_of_tracking st c tracking, markerTier_of_tracking c tracking⟩,
      fun other => ⟨if_neg other, markerTier_of_not_tracking c other⟩, fun quiet => tiers_of_quiet st c ?_,
      fun visible drawn a rest anchors => ?_, fun visible hold => ?_, fun visible stage => ?_⟩
    · rcases quiet with hidden | armed | idle
      · exact .inl (Bool.eq_false_iff.mpr (mt contributes_iff.mp hidden))
      · exact .inr (.inl (drawnStage_of_armed armed))
      · exact .inr (.inr (drawnStage_of_idle idle))
    · rw [figureTier_of_banding (contributing visible) (drawnStage_of_banding drawn), anchors]
      refine ⟨fun line => ?_, fun rect => ?_, fun circle => ?_, fun arc one => ?_, fun arc b two => ?_,
        fun polyline z last => ?_⟩
      · rw [line]
        rfl
      · rw [rect]
        rfl
      · rw [circle]
        rfl
      · rw [arc, one]
        rfl
      · rw [arc, two]
        rfl
      · have youngest : (a :: rest).getLastD a = z := by rw [List.getLastD_eq_getLast?, last]; rfl
        rw [polyline, bandShape, youngest]
        rfl
    · rw [figureTier_of_hold (contributing visible) (drawnStage_of_hold hold)]
      refine ⟨fun a b two => ⟨fun line => ?_, fun rect => ?_, fun circle => ?_⟩, fun a b d three arc => ?_,
        fun polyline => ?_⟩
      · rw [line, two]
        rfl
      · rw [rect, two]
        rfl
      · rw [circle, two]
        rfl
      · rw [arc, three]
        rfl
      · rw [polyline]
        rfl
    · have draws : drawsAnchors k = true := drawsAnchors_of_stage (contributing visible)
        (stage.imp drawnStage_of_banding drawnStage_of_hold)
      obtain ⟨none, segments⟩ := segmentTier_of_anchors (c := c) draws
      exact ⟨none, segments, tickTier_of_anchors draws⟩
  · rcases building with ⟨x, y⟩ | ⟨y, x⟩
    · obtain ⟨t, run, frame, ports⟩ := buildCompletion_answers due (completeBuild_first x y)
      refine ⟨t, assemble n, run, ?_, rfl, rfl, blank_iff n .c0, blank_iff n .c1, List.take_prefix _ _,
        List.length_take .., assemble_truncated_iff n, ports⟩
      rw [if_pos x, if_pos x]
      exact frame
    · have other : s.overlay.bufX ≠ .building n := fun built => x (by rw [built]; rfl)
      obtain ⟨t, run, frame, ports⟩ := buildCompletion_answers due (completeBuild_second y x)
      refine ⟨t, assemble n, run, ?_, rfl, rfl, blank_iff n .c0, blank_iff n .c1, List.take_prefix _ _,
        List.length_take .., assemble_truncated_iff n, ports⟩
      rw [if_neg other, if_neg other]
      exact frame

end Sys2Proof.Machine
end

section
/-! FETCH OVERLAY: its acceptance, its records and the release of its pin (R146 to R149). -/
namespace Sys2Proof.Machine

/-! ## The buffer a fetch reads -/

theorem frontFrame_of_none {b : Buffer} (h : b.state ≠ .front) : b.frontFrame = none ∧ pinBuffer b = b := by
  cases b with
  | front => exact absurd rfl h
  | free | building | ready | frontPinned => exact ⟨rfl, rfl⟩

theorem pinnedFrame_of_none {b : Buffer} (h : b.state ≠ .frontPinned) :
    b.pinnedFrame = none ∧ unpinBuffer b = b := by
  cases b with
  | frontPinned => exact absurd rfl h
  | free | building | ready | front => exact ⟨rfl, rfl⟩

/-- One buffer holds the frame, and the other is not in that state. -/
theorem frontFrame_eq {s : State} {f : Frame} (front : (s.overlay.bufX = .front f ∧ s.overlay.bufY.state ≠ .front) ∨
    (s.overlay.bufY = .front f ∧ s.overlay.bufX.state ≠ .front)) : frontFrame s = some f := by
  unfold frontFrame
  rcases front with ⟨x, -⟩ | ⟨y, x⟩
  · rw [x]
    rfl
  · rw [(frontFrame_of_none x).1, y]
    rfl

theorem pinned_eq {s : State} {f : Frame}
    (front : (s.overlay.bufX = .frontPinned f ∧ s.overlay.bufY.state ≠ .frontPinned) ∨
      (s.overlay.bufY = .frontPinned f ∧ s.overlay.bufX.state ≠ .frontPinned)) : pinned s = some f := by
  unfold pinned
  rcases front with ⟨x, -⟩ | ⟨y, x⟩
  · rw [x]
    rfl
  · rw [(pinnedFrame_of_none x).1, y]
    rfl

/-! ## The acceptance (R146) -/

/-- A fetch opened on a state, with the number and stroke count it will report (R146). -/
def fetchOpened (s : State) (w : ParamBlock) (total : Nat) (words : List Word) (number : Word) (strokes : Nat) :
    State :=
  s.setPort .b (openedPort (s.port .b) .dataOut
    { Progress.start .fetchOverlay w total words with frameNo := number, strokes := strokes })

theorem startDataOut_fetch (w : ParamBlock) (total : Nat) (words : List Word) (number : Word) (strokes : Nat)
    (s : State) : updCmd .b (fun c => { c with frameNo := number, strokes := strokes })
      (startDataOut .b .fetchOverlay w total words (accept .b s)) = fetchOpened s w total words number strokes := by
  rw [startDataOut_accept _ _ _ s rfl]
  rfl

theorem emptyHeader_eq (number : Word) (gen : Byte) :
    headerWords number gen 0 false ⟨false, false⟩ true = [number, gen.setWidth 16, 8] := by
  have word : wordOf (gen.toNat + 256 * 0) = gen.setWidth 16 := by
    apply BitVec.eq_of_toNat_eq
    simp [wordOf]
  rw [headerWords, word]
  rfl

/-- The state with its FRONT buffer pinned (R146). -/
def pinFront (s : State) : State :=
  { s with overlay := { s.overlay with bufX := pinBuffer s.overlay.bufX, bufY := pinBuffer s.overlay.bufY } }

theorem pinFront_accept (p : PortId) (s : State) : pinFront (accept p s) = accept p (pinFront s) := rfl

theorem acceptFetch_front {s : State} {f : Frame} (w : ParamBlock) (found : frontFrame (accept .b s) = some f) :
    acceptFetch .b w (accept .b s) =
      fetchOpened (pinFront s) w (1 + f.strokes.length) (headerLayout f) f.number f.strokes.length := by
  have opens : acceptFetch .b w (accept .b s) =
      updCmd .b (fun c => { c with frameNo := f.number, strokes := f.strokes.length })
        (startDataOut .b .fetchOverlay w (1 + f.strokes.length) f.header (pinFront (accept .b s))) := by
    unfold acceptFetch
    rw [found]
    rfl
  rw [opens, pinFront_accept, startDataOut_fetch, frame_header]

section
variable {s : State} {n : Byte} (ready : Ready .b ⟨0, 0, 0, 0, n⟩ s)
include ready

theorem fetchOverlay_empty (x : s.overlay.bufX.state ≠ .front) (y : s.overlay.bufY.state ≠ .front) :
    ∃ t, exec (.fetchOverlay .b) s = .next t ∧ t = { s with ports := t.ports } ∧
      PortsBecome .b (openedPort (s.port .b) .dataOut
        { Progress.start .fetchOverlay ⟨0, 0, 0, 0, n⟩ 1 [s.overlay.frameNo, s.view.gen.setWidth 16, 8] with
          frameNo := s.overlay.frameNo }) id s t := by
  refine issue_setPort (op := .fetchOverlay) (body := acceptFetch .b) ready ?_
  have none : frontFrame (accept .b s) = none := by
    show frontFrame s = none
    rw [frontFrame, (frontFrame_of_none x).1]
    exact (frontFrame_of_none y).1
  unfold acceptFetch
  rw [none]
  dsimp only
  rw [emptyHeader_eq]
  exact startDataOut_fetch ..

theorem fetchOverlay_pins {f : Frame} (front : (s.overlay.bufX = .front f ∧ s.overlay.bufY.state ≠ .front) ∨
    (s.overlay.bufY = .front f ∧ s.overlay.bufX.state ≠ .front)) :
    ∃ t, exec (.fetchOverlay .b) s = .next t ∧
      t = { s with ports := t.ports, overlay := { s.overlay with
        bufX := if s.overlay.bufX = .front f then .frontPinned f else s.overlay.bufX
        bufY := if s.overlay.bufX = .front f then s.overlay.bufY else .frontPinned f } } ∧
      PortsBecome .b (openedPort (s.port .b) .dataOut
        { Progress.start .fetchOverlay ⟨0, 0, 0, 0, n⟩ (1 + f.strokes.length) (headerLayout f) with
          frameNo := f.number, strokes := f.strokes.length }) id s t := by
  have found : frontFrame (accept .b s) = some f := frontFrame_eq (s := s) front
  have pins : pinBuffer s.overlay.bufX = (if s.overlay.bufX = .front f then .frontPinned f else s.overlay.bufX) ∧
      pinBuffer s.overlay.bufY = (if s.overlay.bufX = .front f then s.overlay.bufY else .frontPinned f) := by
    rcases front with ⟨x, y⟩ | ⟨y, x⟩
    · rw [if_pos x, if_pos x, x]
      exact ⟨rfl, (frontFrame_of_none y).2⟩
    · have other : s.overlay.bufX ≠ .front f := fun same => x (by rw [same]; rfl)
      rw [if_neg other, if_neg other, y]
      exact ⟨(frontFrame_of_none x).2, rfl⟩
  rw [← pins.1, ← pins.2]
  obtain ⟨t, run, frame, becomes⟩ := event_port (p := .b) ready.1
    ((issue_of_ready (op := .fetchOverlay) (body := acceptFetch .b) ready rfl rfl).trans
      (acceptFetch_front ⟨0, 0, 0, 0, n⟩ found)) rfl rfl
  exact ⟨t, run, frame, becomes⟩

end

/-! ## The records of a frame (R147) -/

theorem pinned_setPort (p : PortId) (q : PortState) (s : State) : pinned (s.setPort p q) = pinned s := rfl

section
variable {s : State} {c : Progress} {w : Word}

theorem frameRecordRead_presents {f : Frame} {k : Stroke} (op : c.op = .fetchOverlay)
    (more : c.moved + 1 < c.total)
    (held : pinned s = some f) (stroke : f.strokes[c.moved]? = some k) :
    frameRecordRead .b (lastWordRead .b c w s) = s.setPort .b { s.port .b with
      dreq := true, readData := w, burstAttn := (c.burstPos + 1) % (s.port .b).burst.toNat == 0
      cmd := some { recordCounted c (s.port .b).burst.toNat with words := strokeLayout k } } := by
  have record : f.record (c.moved + 1) = strokeLayout k := by
    rw [Frame.record, stroke]
    exact stroke_toWords k
  have goes : ¬ (recordCounted c (s.port .b).burst.toNat).total ≤ (recordCounted c (s.port .b).burst.toNat).moved :=
    Nat.not_le.mpr more
  unfold frameRecordRead
  rw [countRecord_lastWordRead]
  dsimp only
  rw [port_setPort_same]
  dsimp only
  rw [if_neg goes, pinned_setPort, held]
  dsimp only
  rw [present_eq (c := recordCounted c (s.port .b).burst.toNat) (by rw [port_setPort_same])
    (by rw [recordCounted, op]; rfl)]
  rw [show (recordCounted c (s.port .b).burst.toNat).moved = c.moved + 1 from rfl, record]
  rfl

theorem frameRecordRead_ends (all : c.total ≤ c.moved + 1) :
    frameRecordRead .b (lastWordRead .b c w s) =
      complete .b (fetchOutputs c (swapsAtRelease s) 0) .none
        (releasePin (s.setPort .b { s.port .b with
          dreq := false, burstAttn := false, readData := w
          cmd := some (recordCounted c (s.port .b).burst.toNat) })) := by
  unfold frameRecordRead
  rw [countRecord_lastWordRead]
  dsimp only
  rw [port_setPort_same]
  dsimp only
  exact if_pos all

end

/-- Settles O43: the acceptance pins the front or composes an EMPTY header; strokes follow the header. -/
theorem fetchOverlayReadsFront : Obligations.FetchOverlayReadsFront := by
  refine ⟨fun s n ready => ⟨fetchOverlay_empty ready, fun f => fetchOverlay_pins ready⟩,
    fun s c w f k due phase dreq own op last more front stroke => ?_⟩
  have read : bodyOf (.dataRead .b) s = frameRecordRead .b (lastWordRead .b c w s) := by
    rw [bodyOf_dataRead_last phase dreq own last, op]
    rfl
  rw [frameRecordRead_presents op more (pinned_eq front) stroke, ← dreq] at read
  exact event_setPort due read

end Sys2Proof.Machine
end

section
/-! The end of a FETCH OVERLAY and the release of its pin (R131, R147 to R149). -/
namespace Sys2Proof.Machine

/-! ## The release, by the buffers -/

theorem swapsAtRelease_iff (s : State) : swapsAtRelease s = true ↔ s.overlay.swapPending = true ∧
    (s.overlay.bufX.state = .frontPinned ∨ s.overlay.bufY.state = .frontPinned) := by
  rw [swapsAtRelease, Bool.and_eq_true, anyPinned_iff]
  rfl

theorem releasePin_of_no_swap {s : State} (h : swapsAtRelease s = false) : releasePin s =
    { s with overlay := { s.overlay with
      bufX := unpinBuffer s.overlay.bufX, bufY := unpinBuffer s.overlay.bufY } } :=
  if_neg (by rw [h]; exact Bool.noConfusion)

theorem releasePin_of_not_pending {s : State} (h : s.overlay.swapPending = false) : releasePin s =
    { s with overlay := { s.overlay with
      bufX := unpinBuffer s.overlay.bufX, bufY := unpinBuffer s.overlay.bufY } } :=
  releasePin_of_no_swap (by rw [swapsAtRelease, h]; rfl)

theorem releasePin_of_none {s : State} (x : s.overlay.bufX.state ≠ .frontPinned)
    (y : s.overlay.bufY.state ≠ .frontPinned) : releasePin s = s := by
  have none : swapsAtRelease s = false := by
    rw [Bool.eq_false_iff, ne_eq, swapsAtRelease_iff]
    exact fun ⟨_, pinned⟩ => pinned.elim x y
  rw [releasePin_of_no_swap none, (pinnedFrame_of_none x).2, (pinnedFrame_of_none y).2]

theorem startBuild_first {s : State} (x : s.overlay.bufX = .free) : startBuild s =
    { s with overlay := { s.overlay with
      bufX := .building (takeSnapshot s), frameNo := s.overlay.frameNo + 1 } } := if_pos x

theorem startBuild_second {s : State} (x : s.overlay.bufX ≠ .free) (y : s.overlay.bufY = .free) :
    startBuild s = { s with overlay := { s.overlay with
      bufY := .building (takeSnapshot s), frameNo := s.overlay.frameNo + 1 } } := (if_neg x).trans (if_pos y)

theorem startBuild_none {s : State} (x : s.overlay.bufX ≠ .free) (y : s.overlay.bufY ≠ .free) :
    startBuild s = s := (if_neg x).trans (if_neg y)

/-- The pending swap made, before its build starts (R148). -/
def swapTaken (s : State) : State :=
  { s with overlay := { s.overlay with
    bufX := swapBuffer s.overlay.bufX, bufY := swapBuffer s.overlay.bufY, swapPending := false } }

theorem releasePin_of_swap {s : State} (h : swapsAtRelease s = true) : releasePin s = startBuild (swapTaken s) :=
  if_pos h

section
variable {s : State} {f g : Frame} (pending : s.overlay.swapPending = true)
include pending

theorem releasePin_swaps_first (x : s.overlay.bufX = .frontPinned f) (y : s.overlay.bufY = .ready g) :
    releasePin s = { s with overlay := { s.overlay with
      bufX := .building (takeSnapshot s), bufY := .front g, swapPending := false
      frameNo := s.overlay.frameNo + 1 } } := by
  have swaps : swapsAtRelease s = true := (swapsAtRelease_iff s).mpr ⟨pending, .inl (by rw [x]; rfl)⟩
  rw [releasePin_of_swap swaps, swapTaken, x, y]
  exact startBuild_first rfl

theorem releasePin_swaps_second (y : s.overlay.bufY = .frontPinned f) (x : s.overlay.bufX = .ready g) :
    releasePin s = { s with overlay := { s.overlay with
      bufX := .front g, bufY := .building (takeSnapshot s), swapPending := false
      frameNo := s.overlay.frameNo + 1 } } := by
  have swaps : swapsAtRelease s = true := (swapsAtRelease_iff s).mpr ⟨pending, .inr (by rw [y]; rfl)⟩
  rw [releasePin_of_swap swaps, swapTaken, x, y]
  exact startBuild_second Buffer.noConfusion rfl

end

/-! ## The release beside the port -/

theorem startBuild_setPort (p : PortId) (q : PortState) (s : State) :
    startBuild (s.setPort p q) = (startBuild s).setPort p q := by
  by_cases x : s.overlay.bufX = .free
  · rw [startBuild_first x, startBuild_first (s := s.setPort p q) x]
    rfl
  · by_cases y : s.overlay.bufY = .free
    · rw [startBuild_second x y, startBuild_second (s := s.setPort p q) x y]
      rfl
    · rw [startBuild_none x y, startBuild_none (s := s.setPort p q) x y]

theorem releasePin_setPort (p : PortId) (q : PortState) (s : State) :
    releasePin (s.setPort p q) = (releasePin s).setPort p q := by
  have same : swapsAtRelease (s.setPort p q) = swapsAtRelease s := rfl
  cases swaps : swapsAtRelease s with
  | true =>
    rw [releasePin_of_swap swaps, releasePin_of_swap (same.trans swaps)]
    exact startBuild_setPort p q (swapTaken s)
  | false => rw [releasePin_of_no_swap swaps, releasePin_of_no_swap (same.trans swaps)]; rfl

/-! ## The end of the command -/

section
variable {s : State} {c : Progress} (due : NothingDue s) (dreq : (s.port .b).dreq = true)
  (own : (s.port .b).cmd = some c) (op : c.op = .fetchOverlay)
include due dreq own op

theorem lastFetchWord_completes {w : Word} (phase : (s.port .b).state = .dataOut) (last : c.words = [w])
    (all : c.total ≤ c.moved + 1) :
    ∃ t, exec (.dataRead .b) s = .next t ∧ t = { s with ports := t.ports, overlay := (releasePin s).overlay } ∧
      PortsBecome .b { completedPort (s.port .b) (fetchOutputs c (swapsAtRelease s) 0) .none with readData := w }
        id s t := by
  have read : bodyOf (.dataRead .b) s = frameRecordRead .b (lastWordRead .b c w s) := by
    rw [bodyOf_dataRead_last phase dreq own last, op]
    rfl
  rw [frameRecordRead_ends all, releasePin_setPort] at read
  obtain ⟨t, run, frame, becomes⟩ := event_port (p := .b) due read
    (q := { completedPort (s.port .b) (fetchOutputs c (swapsAtRelease s) 0) .none with readData := w })
    (by rw [port_complete_same, port_setPort_same]; rfl)
    ((port_complete_other ..).trans (releasePin_port s .a))
  exact ⟨t, run, frame.trans (congrArg (fun u : State => { u with ports := t.ports }) (releasePin_eq s)), becomes⟩

theorem fetchTimeout_completes :
    ∃ t, exec (.dataPhaseTimeout .b) s = .next t ∧
      t = { s with ports := t.ports, overlay := (releasePin s).overlay } ∧
      PortsBecome .b (completedPort (s.port .b) (fetchOutputs c (swapsAtRelease s) (c.total - c.moved)) .timeout)
        id s t := by
  have effect : bodyOf (.dataPhaseTimeout .b) s =
      complete .b (fetchOutputs c (swapsAtRelease s) (c.total - c.moved)) .timeout (releasePin s) := by
    refine (if_pos dreq).trans ?_
    unfold timeOut
    rw [own]
    dsimp only
    rw [op, timeoutOutputs, op]
    rfl
  obtain ⟨t, run, frame, becomes⟩ := event_port (p := .b) due effect
    (q := completedPort (s.port .b) (fetchOutputs c (swapsAtRelease s) (c.total - c.moved)) .timeout)
    (by rw [port_complete_same, releasePin_port])
    ((port_complete_other ..).trans (releasePin_port s .a))
  exact ⟨t, run, frame.trans (congrArg (fun u : State => { u with ports := t.ports }) (releasePin_eq s)), becomes⟩

end

/-- Settles O44: the last word and the timeout release the pin, by whether a swap is pending. -/
theorem fetchOverlayReleasesPin : Obligations.FetchOverlayReleasesPin := by
  refine ⟨fun s c due phase dreq own op => ⟨showsFetch_fetchOutputs c _, swapsAtRelease_iff s,
    fun w last all => lastFetchWord_completes due dreq own op phase last all,
    fetchTimeout_completes due dreq own op⟩, fun o s f same => ?_⟩
  subst same
  refine ⟨releasePin_of_none, fun calm x y => ?_, fun calm y x => ?_, fun g pending x y =>
    releasePin_swaps_first pending x y, fun g pending y x => releasePin_swaps_second pending y x⟩
  · rw [releasePin_of_not_pending calm, x, (pinnedFrame_of_none y).2]
    rfl
  · rw [releasePin_of_not_pending calm, y, (pinnedFrame_of_none x).2]
    rfl

end Sys2Proof.Machine
end

section
/-! The Position Link: its bytes, its frames and what becomes of a good one (R151 to R163, R199). -/
namespace Sys2Proof.Machine

/-! ## What a byte or a gap answers -/

/-- What the arrival of a byte answers that leaves the link `l` and may raise an event; HOLD follows. -/
theorem byteArrival_answers {b : Byte} {stop : Bool} {s : State} {l : Link} (raises : Bool) (e : Event)
    (due : NothingDue s) (effect : arrive b stop s = raiseIf raises e { s with link := l }) :
    ∃ t, exec (.byteArrival b stop) s = .next t ∧
      t = { s with ports := t.ports, link := { l with hold := holdLevel l } } ∧
      PortsKept (latching (if raises = true then [e] else [])) s t := by
  have link : (raiseIf raises e { s with link := l }).link = l := by simp
  refine ⟨_, event_effect (i := .byteArrival b stop) due (congrArg driveHold effect), ?_,
    portsBecome_driveAttention (raiseIf_port raises e { s with link := l } .a)
      (raiseIf_port raises e { s with link := l } .b)⟩
  refine state_eq_by_fields (ports := rfl) (link := ?_)
  show { (raiseIf raises e { s with link := l }).link with
    hold := holdLevel (raiseIf raises e { s with link := l }).link } = _
  rw [link]

section
variable {b : Byte} {stop : Bool} {s : State} {l : Link} (due : NothingDue s)
include due

theorem byteArrival_quiet (level : l.hold = holdLevel l) (effect : arrive b stop s = { s with link := l }) :
    ∃ t, exec (.byteArrival b stop) s = .next t ∧ t = { s with ports := t.ports, link := l } ∧
      PortsKept (latching []) s t := by
  obtain ⟨t, run, frame, ports⟩ := byteArrival_answers false .linkError due effect
  rw [← level] at frame
  exact ⟨t, run, frame, ports⟩

variable (level : s.link.hold = holdLevel s.link)
include level

theorem byteArrival_fails (effect : arrive b stop s = framingError s) :
    ∃ t, exec (.byteArrival b stop) s = .next t ∧
      t = { s with ports := t.ports, link := { s.link with assembler := .hunt } } ∧
      PortsKept (latching [.linkError]) s t := by
  obtain ⟨t, run, frame, ports⟩ :=
    byteArrival_answers (l := { s.link with assembler := .hunt }) true .linkError due effect
  refine ⟨t, run, frame.trans ?_, ports⟩
  rw [show holdLevel { s.link with assembler := .hunt } = s.link.hold from level.symm]

theorem byteArrival_stores {a : Assembler} (effect : arrive b stop s = setAssembler a s) :
    ∃ t, exec (.byteArrival b stop) s = .next t ∧
      t = { s with ports := t.ports, link := { s.link with assembler := a } } ∧
      PortsKept (latching []) s t :=
  byteArrival_quiet due (l := { s.link with assembler := a }) level effect

end

/-! ## The assembler (R153) -/

theorem arrive_in_hunt {s : State} (hunt : s.link.assembler = .hunt) (b : Byte) (stop : Bool) :
    arrive b stop s = if stop && b == 0x7E then startFrame s else s := by
  unfold arrive
  rw [hunt]

section
variable {s : State} {bytes : List Byte} (frame : s.link.assembler = .inFrame bytes)
include frame

theorem arrive_broken (b : Byte) : arrive b false s = framingError s := by
  unfold arrive
  rw [frame]
  rfl

theorem arrive_in_frame (b : Byte) : arrive b true s = frameByte bytes b s := by
  unfold arrive
  rw [frame]
  rfl

end

theorem frameByte_second_unknown {addr b : Byte} (s : State) (unknown : frameLength b = none) :
    frameByte [addr] b s = framingError s := by
  unfold frameByte
  simp only [List.singleton_append, unknown]

theorem frameByte_more {addr kind b : Byte} {rest bytes : List Byte} {n : Nat} (s : State)
    (whole : bytes ++ [b] = addr :: kind :: rest) (known : frameLength kind = some n)
    (more : (bytes ++ [b]).length < n) : frameByte bytes b s = setAssembler (.inFrame (bytes ++ [b])) s := by
  unfold frameByte
  rw [whole] at more ⊢
  simp only [known]
  exact if_pos more

theorem frameByte_last {addr kind b : Byte} {rest bytes : List Byte} {n : Nat} (s : State)
    (whole : bytes ++ [b] = addr :: kind :: rest) (known : frameLength kind = some n)
    (all : n ≤ (bytes ++ [b]).length) : frameByte bytes b s = completeFrame (bytes ++ [b]) s := by
  unfold frameByte
  rw [whole] at all ⊢
  simp only [known]
  exact if_neg (Nat.not_lt.mpr all)

theorem frameLength_of_position {kind : Byte} (h : kind = 1 ∨ kind = 2) : frameLength kind = some 8 := if_pos h

theorem frameLength_of_unknown {b : Byte} (one : b ≠ 1) (two : b ≠ 2) (three : b ≠ 3) : frameLength b = none :=
  (if_neg (not_or.mpr ⟨one, two⟩)).trans (if_neg three)

theorem frameLength_of_known {b : Byte} (h : b = 1 ∨ b = 2 ∨ b = 3) : ∃ n, frameLength b = some n ∧ 2 < n := by
  rcases h with rfl | rfl | rfl
  · exact ⟨8, rfl, by decide⟩
  · exact ⟨8, rfl, by decide⟩
  · exact ⟨3, rfl, by decide⟩

theorem startFrame_level {l : Link} (level : l.hold = holdLevel l) :
    l.hold = holdLevel { l with assembler := .inFrame [], state := if l.state = .idle then .run else l.state } := by
  rw [level, Bool.eq_iff_iff, holdLevel_iff, holdLevel_iff]
  cases l.state <;> simp

/-- Settles O45: in HUNT a start byte alone opens a frame; in a frame, by how many bytes it has. -/
theorem linkBytesAssemble : Obligations.LinkBytesAssemble := by
  intro s b due level answers failed
  refine ⟨fun hunt => ⟨?_, fun other => ?_, ?_, ?_⟩, fun bytes frame => ⟨?_, ?_, fun none => ?_,
    fun addr one notOne notTwo notThree => ?_, fun addr one known => ?_,
    fun addr kind rest two known short => ?_⟩⟩
  · exact byteArrival_quiet due (startFrame_level level) (arrive_in_hunt hunt 0x7E true)
  · refine byteArrival_quiet due level ((arrive_in_hunt hunt b true).trans (if_neg ?_))
    simpa using other
  · exact byteArrival_quiet due level (arrive_in_hunt hunt b false)
  · have effect : bodyOf .gapTimerExpiry s = s := expireGap_of_hunt hunt
    exact ⟨_, event_effect due effect, rfl, portsBecome_driveAttention rfl rfl⟩
  · exact byteArrival_fails due level (arrive_broken frame b)
  · have effect : bodyOf .gapTimerExpiry s = framingError s := by
      show expireGap s = _
      rw [expireGap, frame]
    exact ⟨_, event_effect due effect, rfl, portsBecome_driveAttention rfl rfl⟩
  · rw [List.length_eq_zero_iff.mp none] at frame
    exact byteArrival_stores due level (arrive_in_frame frame b)
  · rw [one] at frame
    exact byteArrival_fails due level ((arrive_in_frame frame b).trans
      (frameByte_second_unknown s (frameLength_of_unknown notOne notTwo notThree)))
  · obtain ⟨n, length, more⟩ := frameLength_of_known known
    rw [one] at frame
    exact byteArrival_stores due level ((arrive_in_frame frame b).trans (frameByte_more s rfl length more))
  · refine byteArrival_stores due level ((arrive_in_frame frame b).trans
      (frameByte_more (rest := rest ++ [b]) s (by rw [two]; rfl) (frameLength_of_position known) ?_))
    rw [two]
    simp only [List.length_append, List.length_cons, List.length_nil]
    omega

/-! ## A frame to its last byte (R155 to R163) -/

/-- A station matches an address in the bits its mask leaves (R157). -/
theorem stationMatches_iff (st : Station) (addr : Byte) : stationMatches st addr = true ↔
    ∀ n, n < 8 → st.mask.getLsbD n = false → st.address.getLsbD n = addr.getLsbD n := by
  have bit (n : Nat) (small : n < 8) :
      ((st.address.setWidth 8 ^^^ addr) &&& ~~~(st.mask.setWidth 8)).getLsbD n = false ↔
        (st.mask.getLsbD n = false → st.address.getLsbD n = addr.getLsbD n) := by
    rw [BitVec.getLsbD_and, BitVec.getLsbD_xor, BitVec.getLsbD_not, BitVec.getLsbD_setWidth,
      BitVec.getLsbD_setWidth, decide_eq_true small, Bool.true_and, Bool.true_and, Bool.true_and]
    cases st.mask.getLsbD n <;> simp
  rw [stationMatches, beq_iff_eq]
  constructor
  · intro zero n small
    rw [← bit n small, zero]
    exact BitVec.getLsbD_zero
  · refine fun all => BitVec.eq_of_getLsbD_eq fun n small => ?_
    rw [(bit n small).mpr (all n small)]
    exact BitVec.getLsbD_zero.symm

theorem deliverFrame_of_not_run {addr : Byte} {m : Message} {s : State} (h : s.link.state ≠ .run) :
    deliverFrame addr m s = s := by
  unfold deliverFrame
  split
  · next run _ => exact absurd run h
  · rfl

theorem deliverFrame_of_no_match {addr : Byte} {m : Message} {s : State} (h : matchStation s.link addr = none) :
    deliverFrame addr m s = s := by
  unfold deliverFrame
  rw [h]
  cases s.link.state <;> rfl

section
variable {addr : Byte} {m : Message} {s : State} {c : Chan} (run : s.link.state = .run)
  (matched : matchStation s.link addr = some c)
include run matched

theorem deliverFrame_held (room : s.link.holding.length < 2) : deliverFrame addr m s =
    { s with link := { s.link with holding := s.link.holding ++ [{ chan := c, msg := m }] } } := by
  unfold deliverFrame
  rw [run, matched]
  exact if_pos room

theorem deliverFrame_lost (full : 2 ≤ s.link.holding.length) : deliverFrame addr m s =
    raise .linkOverrun { s with link := { s.link with state := .overrun } } := by
  unfold deliverFrame
  rw [run, matched]
  exact if_neg (Nat.not_lt.mpr full)

end

theorem matchStation_eq_some {l : Link} {addr : Byte} {c : Chan}
    (h : stationMatches l.stations.ch0 addr = true ∧ c = .c0 ∨
      ¬ stationMatches l.stations.ch0 addr = true ∧ stationMatches l.stations.ch1 addr = true ∧ c = .c1) :
    matchStation l addr = some c := by
  unfold matchStation
  rcases h with ⟨first, rfl⟩ | ⟨first, second, rfl⟩
  · exact if_pos first
  · exact (if_neg first).trans (if_pos second)

theorem matchStation_eq_none {l : Link} {addr : Byte} (first : ¬ stationMatches l.stations.ch0 addr = true)
    (second : ¬ stationMatches l.stations.ch1 addr = true) : matchStation l addr = none :=
  (if_neg first).trans (if_neg second)

/-- The last byte of a frame of a known kind completes it. -/
theorem arrive_completes {s : State} {bytes : List Byte} (b : Byte) (frame : s.link.assembler = .inFrame bytes)
    (whole : (∃ addr kind rest, bytes = addr :: kind :: rest ∧ (kind = 1 ∨ kind = 2) ∧ rest.length = 5) ∨
      (∃ addr, bytes = [addr, 3])) : arrive b true s = completeFrame (bytes ++ [b]) s := by
  rw [arrive_in_frame frame]
  rcases whole with ⟨addr, kind, rest, rfl, position, length⟩ | ⟨addr, rfl⟩
  · refine frameByte_last (rest := rest ++ [b]) s rfl (frameLength_of_position position) ?_
    simp only [List.length_append, List.length_cons, List.length_nil]
    omega
  · exact frameByte_last (n := 3) s rfl rfl (Nat.le_refl 3)

/-- Settles O46: a bad frame, a good one that is matched in RUN, and the others. -/
theorem completedFrameIsHeldOrLost : Obligations.CompletedFrameIsHeldOrLost := by
  intro s b bytes due frame whole hunting answers matched
  have completes := arrive_completes b frame whole
  have answered {l : Link} (raises : Bool) (e : Event)
      (effect : arrive b true s = raiseIf raises e { s with link := l }) :
      answers l (if raises = true then [e] else []) := by
    obtain ⟨t, run, same, ports⟩ := byteArrival_answers raises e due effect
    have hold : t.link.hold = holdLevel l := by rw [same]
    rw [← hold] at same
    exact ⟨t, run, same, ports, by rw [hold, holdLevel_iff]⟩
  refine ⟨fun bad => ?_, fun addr m good => ?_⟩
  · refine answered true .linkError (completes.trans ?_)
    unfold completeFrame
    rw [bad]
    rfl
  · have delivers : arrive b true s = deliverFrame addr m (setAssembler .hunt s) := by
      rw [completes, completeFrame, good]
    have first : matched .c0 addr ↔ stationMatches s.link.stations.ch0 addr = true :=
      (stationMatches_iff _ addr).symm
    have second : matched .c1 addr ↔ stationMatches s.link.stations.ch1 addr = true :=
      (stationMatches_iff _ addr).symm
    refine ⟨fun c found run => ?_, fun noFirst noSecond => ?_, fun other => ?_⟩
    · have goes : matchStation (setAssembler .hunt s).link addr = some c :=
        matchStation_eq_some (by rwa [first, second] at found)
      refine ⟨fun room => answered false .linkError (delivers.trans (deliverFrame_held run goes room)),
        fun full => answered true .linkOverrun (delivers.trans (deliverFrame_lost run goes full))⟩
    · have goes : matchStation (setAssembler .hunt s).link addr = none :=
        matchStation_eq_none (mt first.mpr noFirst) (mt second.mpr noSecond)
      exact answered false .linkError (delivers.trans (deliverFrame_of_no_match goes))
    · exact answered false .linkError (delivers.trans (deliverFrame_of_not_run other))

/-! ## Good frames (R152, R155, R199) -/

theorem linkCoord_of_le {lo hi : Byte} (h : lo.toNat + 256 * hi.toNat ≤ 32767) :
    ∃ x : TabletCoord, linkCoord lo hi = some x ∧ x.toNat = lo.toNat + 256 * hi.toNat := by
  refine ⟨BitVec.ofNat 15 (lo.toNat + 256 * hi.toNat), if_pos h, ?_⟩
  rw [BitVec.toNat_ofNat]
  exact Nat.mod_eq_of_lt (by omega)

theorem linkCoord_of_gt {lo hi : Byte} (h : ¬ lo.toNat + 256 * hi.toNat ≤ 32767) : linkCoord lo hi = none :=
  if_neg h

theorem goodFrame_of_sum {bytes : List Byte} (h : frameSum bytes ≠ 0) : goodFrame bytes = none := if_pos h

section
variable {addr kind xl xh yl yh btn sum : Byte} (zero : frameSum [addr, kind, xl, xh, yl, yh, btn, sum] = 0)
include zero

theorem goodFrame_of_coords (h : linkCoord xl xh = none ∨ linkCoord yl yh = none) :
    goodFrame [addr, kind, xl, xh, yl, yh, btn, sum] = none := by
  refine (if_neg (not_not.mpr zero)).trans ?_
  dsimp only
  rcases h with h | h
  · rw [h]
  · rw [h]
    cases linkCoord xl xh <;> rfl

variable {x y : TabletCoord} (xs : linkCoord xl xh = some x) (ys : linkCoord yl yh = some y)
include xs ys

theorem goodFrame_of_buttons (h : 7 < btn.toNat) : goodFrame [addr, kind, xl, xh, yl, yh, btn, sum] = none := by
  refine (if_neg (not_not.mpr zero)).trans ?_
  dsimp only
  rw [xs, ys]
  exact if_pos h

theorem goodFrame_position (position : kind = 1 ∨ kind = 2) (h : btn.toNat ≤ 7) :
    goodFrame [addr, kind, xl, xh, yl, yh, btn, sum] =
      some (addr, if kind = 1 then .motion ⟨x, y⟩ (BitVec.ofNat 3 btn.toNat)
        else .proxIn ⟨x, y⟩ (BitVec.ofNat 3 btn.toNat)) := by
  refine (if_neg (not_not.mpr zero)).trans ?_
  dsimp only
  rw [xs, ys]
  refine (if_neg (Nat.not_lt.mpr h)).trans ?_
  rcases position with rfl | rfl <;> rfl

end

/-- Settles O47: the checksum, the two coordinates and the button byte in turn. -/
theorem goodFramesAreThoseThatCheck : Obligations.GoodFramesAreThoseThatCheck := by
  refine ⟨fun addr sum => ?_, fun addr kind xl xh yl yh btn sum position => ?_⟩
  · have total : frameSum [addr, 3, sum] = addr + 3 + sum := by simp [frameSum]
    by_cases zero : addr + 3 + sum = 0
    · rw [if_pos zero]
      exact if_neg (not_not.mpr (total.trans zero))
    · rw [if_neg zero]
      exact goodFrame_of_sum (by rwa [total])
  · intro good
    have total : frameSum [addr, kind, xl, xh, yl, yh, btn, sum] =
        addr + kind + xl + xh + yl + yh + btn + sum := by simp [frameSum]
    refine ⟨fun bad => ?_, fun ⟨zero, xFits, yFits, buttons⟩ => ?_⟩
    · by_cases zero : addr + kind + xl + xh + yl + yh + btn + sum = 0
      case neg => exact goodFrame_of_sum (by rwa [total])
      by_cases xFits : xl.toNat + 256 * xh.toNat ≤ 32767
      case neg => exact goodFrame_of_coords (total.trans zero) (.inl (linkCoord_of_gt xFits))
      by_cases yFits : yl.toNat + 256 * yh.toNat ≤ 32767
      case neg => exact goodFrame_of_coords (total.trans zero) (.inr (linkCoord_of_gt yFits))
      obtain ⟨x, xs, -⟩ := linkCoord_of_le xFits
      obtain ⟨y, ys, -⟩ := linkCoord_of_le yFits
      exact goodFrame_of_buttons (total.trans zero) xs ys
        (Nat.not_le.mp fun buttons => bad ⟨zero, xFits, yFits, buttons⟩)
    · obtain ⟨x, xs, xValue⟩ := linkCoord_of_le xFits
      obtain ⟨y, ys, yValue⟩ := linkCoord_of_le yFits
      refine ⟨⟨x, y⟩, BitVec.ofNat 3 btn.toNat, xValue, yValue, ?_,
        goodFrame_position (total.trans zero) xs ys position buttons⟩
      rw [BitVec.toNat_ofNat]
      exact Nat.mod_eq_of_lt (by omega)

end Sys2Proof.Machine
end

section
/-! The commands that report and clear: picks, link and events (R124, R164, R185 to R187). -/
namespace Sys2Proof.Machine

theorem clearOverrun_eq (l : Link) : clearOverrun l = { l with
    state := if l.state = .overrun then .run else l.state
    assembler := if l.state = .overrun then .hunt else l.assembler } := by
  rcases l with ⟨state, assembler, holding, stations, hold⟩
  cases state <;> rfl

section
variable {s : State} {n : Byte} (ready : Ready .a ⟨0, 0, 0, 0, n⟩ s)
include ready

/-- FLUSH PICKS empties the queue, and PICK_AVAILABLE falls in both sets (R124, R185). -/
theorem flushPicks_answers :
    ∃ t, exec (.flushPicks .a) s = .next t ∧
      t = { s with ports := t.ports, pickRaw := false, picks := { s.picks with records := [] } } ∧
      PortsBecome .a (servedPort (s.port .a) ⟨lowByte s.picks.records.length, 0, 0, 0, 0⟩ .none)
        (withPickAvailable false) s t := by
  have effect : bodyOf (.flushPicks .a) s = acceptFlush .a (accept .a s) :=
    issue_of_ready (op := .flushPicks) (body := fun _ t => acceptFlush .a t) ready rfl rfl
  refine ⟨_, event_effect ready.1 effect, rfl, portsBecome_complete fun q => ?_⟩
  cases q <;> rfl

/-- CLEAR LINK ends an overrun, and HOLD falls to its other cause (R162, R164). -/
theorem clearLink_answers :
    ∃ t, exec (.clearLink .a) s = .next t ∧ t = { s with ports := t.ports, link := t.link } ∧
      t.link = { s.link with
        state := (if s.link.state = .overrun then .run else s.link.state)
        assembler := (if s.link.state = .overrun then .hunt else s.link.assembler)
        hold := t.link.hold } ∧
      (t.link.hold = true ↔ 2 ≤ s.link.holding.length) ∧
      PortsBecome .a (servedPort (s.port .a)
        ⟨lowByte s.link.state.code, lowByte s.link.holding.length, 0, 0, 0⟩ .none) id s t := by
  have effect : bodyOf (.clearLink .a) s = acceptClearLink .a (accept .a s) :=
    issue_of_ready (op := .clearLink) (body := fun _ t => acceptClearLink .a t) ready rfl rfl
  refine ⟨_, event_effect ready.1 effect, rfl, ?_, ?_, portsBecome_complete fun q => ?_⟩
  · exact congrArg (fun l : Link => { l with hold := holdLevel (clearOverrun s.link) }) (clearOverrun_eq s.link)
  · show holdLevel (clearOverrun s.link) = true ↔ _
    have ended : (if s.link.state = .overrun then .run else s.link.state) ≠ LinkState.overrun := by
      split
      · exact LinkState.noConfusion
      · assumption
    rw [holdLevel_iff, clearOverrun_eq]
    exact or_iff_left ended
  · cases q <;> rfl

end

/-! ## The event sets (R186, R187) -/

/-- The three parameter bytes that show an event set (R196). -/
theorem eventOutputs_eq (e : EventSet) (b : Byte) :
    eventOutputs e b = ⟨e.setWidth 8, (e >>> 8).setWidth 8, (e >>> 16).setWidth 8, b, 0⟩ := by
  have byte (k : Nat) : lowByte (e.toNat / 2 ^ k) = (e >>> k).setWidth 8 := by
    apply BitVec.eq_of_toNat_eq
    rw [lowByte, BitVec.toNat_ofNat, BitVec.toNat_setWidth, BitVec.toNat_ushiftRight, Nat.shiftRight_eq_div_pow]
  have low : lowByte e.toNat = e.setWidth 8 := BitVec.ofNat_toNat ..
  have mid : lowByte (e.toNat / 256) = (e >>> 8).setWidth 8 := byte 8
  have high : lowByte (e.toNat / 65536) = (e >>> 16).setWidth 8 := byte 16
  rw [eventOutputs, low, mid, high]

theorem rawConditions_eq (s : State) (q : PortState) : rawConditions s q =
    (if s.pickRaw = true then 1 else 0) + (if q.mode = .edge then 2 else 0) := by
  unfold rawConditions
  cases s.pickRaw <;> cases q.mode <;> rfl

theorem clearSet_eq (raw : Bool) (named set : EventSet) : clearSet raw named set =
    (set &&& ~~~named) ||| (if raw = true then Event.pickAvailable.toSet else 0) := by
  cases raw with
  | true => rfl
  | false => exact BitVec.or_zero.symm

section
variable {s : State} {n : Byte} {p : PortId}

theorem readEvents_answers (ready : Ready p ⟨0, 0, 0, 0, n⟩ s) :
    ∃ t, exec (.readEvents p) s = .next t ∧ t = { s with ports := t.ports } ∧
      PortsBecome p (servedPort (s.port p)
        ⟨(s.port p).latched.setWidth 8, ((s.port p).latched >>> 8).setWidth 8,
         ((s.port p).latched >>> 16).setWidth 8,
         (if s.pickRaw = true then 1 else 0) + (if (s.port p).mode = .edge then 2 else 0), 0⟩ .none)
        id s t := by
  have port : (accept p s).port p = { s.port p with done := false, fault := .none, collide := false } :=
    port_accept_same p s
  refine issue_setPort (op := .readEvents)
    (body := fun _ t => complete p (eventOutputs (t.port p).latched (rawConditions t (t.port p))) .none t)
    ready ?_ (by cases p <;> rfl)
  rw [← rawConditions_eq, ← eventOutputs_eq, ← complete_accept_eq]
  rw [port]
  rfl

theorem clearEvents_answers {x y z : Byte} (ready : Ready p ⟨x, y, z, 0, n⟩ s) (low : x.getLsbD 7 = false)
    (mid : y.getLsbD 7 = false) :
    let left : EventSet := ((s.port p).latched &&& ~~~(z ++ y ++ x)) |||
      (if s.pickRaw = true then Event.pickAvailable.toSet else 0)
    ∃ t, exec (.clearEvents p) s = .next t ∧ t = { s with ports := t.ports } ∧
      PortsBecome p { servedPort (s.port p)
        ⟨left.setWidth 8, (left >>> 8).setWidth 8, (left >>> 16).setWidth 8, 0, 0⟩ .none with
        latched := left } id s t := by
  intro left
  have ok : paramsOk .clearEvents ⟨x, y, z, 0, n⟩ = true :=
    paramsOk_iff.mpr ⟨fun names => Bool.noConfusion names, rfl, (eventsOk_iff _).mpr ⟨low, mid⟩⟩
  have cleared : clearSet s.pickRaw (ParamBlock.events ⟨x, y, z, 0, n⟩) (s.port p).latched = left := by
    rw [clearSet_eq, events_eq]
  refine issue_setPort (op := .clearEvents) (body := acceptClearEvents p) ready ?_ (by cases p <;> rfl) ok
  rw [← eventOutputs_eq, ← cleared]
  cases p <;> rfl

end

/-- Settles O48: each command with what it reports and what it clears. -/
theorem reportingCommandsComplete : Obligations.ReportingCommandsComplete := fun _ _ =>
  ⟨fun ready => ⟨flushPicks_answers ready, clearLink_answers ready⟩, fun _ ready => readEvents_answers ready,
    fun _ _ _ _ ready low mid => clearEvents_answers ready low mid⟩

end Sys2Proof.Machine
end

section
/-! The data-in records: which are refused, and what the others are read as (R193, R197). -/
namespace Sys2Proof.Machine

/-! ## The fields of a word -/

theorem field_wordOf {n : Nat} (lo len : Nat) (small : n < 65536) :
    field (wordOf n) lo len = n / 2 ^ lo % 2 ^ len := by
  rw [field, wordOf, BitVec.toNat_ofNat, Nat.mod_eq_of_lt small]

theorem field_bit (w : Word) (lo : Nat) : field w lo 1 = 0 ∨ field w lo 1 = 1 := by
  unfold field
  omega

theorem field_eq_shift (w : Word) (lo len : Nat) : field w lo len = (w >>> lo).toNat % 2 ^ len := by
  rw [field, BitVec.toNat_ushiftRight, Nat.shiftRight_eq_div_pow]

/-! ## Entry and removal records -/

/-- The reserved bits, the layer and the seats of an entry record (R33). -/
def entryFits (w1 w2 : Word) : Prop :=
  field w1 6 2 = 0 ∧ field w1 8 8 ≤ 15 ∧ field w2 0 2 ≠ 0 ∧ field w2 2 14 = 0

section
variable {w0 w1 w2 xl xh yl yh : Word}

theorem parseEntry_of_kind {k : SnapKind} (kind : SnapKind.ofCode (field w1 0 4) = some k)
    (fits : entryFits w1 w2) : parseEntry [w0, w1, w2, xl, xh, yl, yh] =
      some { handle := w0, kind := k, cls := BitVec.ofNat 2 (field w1 4 2)
             layer := BitVec.ofNat 4 (field w1 8 8)
             seats := ⟨field w2 0 1 == 1, field w2 1 1 == 1⟩
             point := ⟨coordOfWords xl xh, coordOfWords yl yh⟩ } := by
  unfold parseEntry
  dsimp only
  rw [kind]
  exact if_pos fits

theorem parseEntry_eq_none_iff : parseEntry [w0, w1, w2, xl, xh, yl, yh] = none ↔
    SnapKind.ofCode (field w1 0 4) = none ∨ ¬ entryFits w1 w2 := by
  unfold parseEntry
  dsimp only
  cases SnapKind.ofCode (field w1 0 4) with
  | none => simp
  | some k => simp [entryFits]

end

theorem parseRemoval_eq_none_iff (w0 w1 : Word) : parseRemoval [w0, w1] = none ↔
    field w1 4 12 ≠ 0 ∨ (field w1 0 4 ≠ 15 ∧ SnapKind.ofCode (field w1 0 4) = none) := by
  unfold parseRemoval
  dsimp only
  split
  · next reserved => simp [reserved]
  · next reserved =>
    split
    · next any => simp [not_not.mp reserved, any]
    · next named => simp [not_not.mp reserved, named]

/-! ## Window, view, grid and settings records -/

theorem parseWindow_eq_none_iff (w0 w1 w2 w3 w4 w5 w6 w7 w8 : Word) :
    parseWindow [w0, w1, w2, w3, w4, w5, w6, w7, w8] = none ↔
      field w0 1 15 ≠ 0 ∨ (field w0 0 1 = 0 ∧
        ((coordOfWords w5 w6).toInt < (coordOfWords w1 w2).toInt ∨
          (coordOfWords w7 w8).toInt < (coordOfWords w3 w4).toInt)) := by
  unfold parseWindow
  dsimp only
  split
  · next reserved => simp [reserved]
  · next reserved =>
    split
    · next none => simp [not_not.mp reserved, none]
    · next rect =>
      have zero : field w0 0 1 = 0 := (field_bit w0 0).resolve_right rect
      rw [or_iff_right reserved, and_iff_right zero]
      split
      · next crossed => simpa using crossed
      · next fits => simpa using fits

theorem parseView_eq_none_iff (w0 w1 w2 w3 w4 w5 : Word) : parseView [w0, w1, w2, w3, w4, w5] = none ↔
    (field w5 8 8 ≠ 0 ∨ w4 = 0 ∨ 15 < field w5 0 8) ∨
      2147483647 < (coordOfWords w0 w1).toInt + farAddend w4 (field w5 0 8) ∨
      2147483647 < (coordOfWords w2 w3).toInt + farAddend w4 (field w5 0 8) := by
  unfold parseView
  dsimp only
  split
  · next bad => simp only [true_iff]; exact .inl bad
  · next formed =>
    rw [or_iff_right formed]
    split
    · next far => simpa using far
    · next fits => simpa using fits

theorem pitchOk_eq_false_iff (p : Coord) : pitchOk p = false ↔ p.toInt < 1 ∨ 16777216 < p.toInt := by
  rw [pitchOk, Bool.and_eq_false_iff, decide_eq_false_iff_not, decide_eq_false_iff_not, Int.not_le, Int.not_le]

theorem parseGrid_eq_none_iff (w0 w1 w2 w3 w4 w5 w6 w7 w8 : Word) :
    parseGrid [w0, w1, w2, w3, w4, w5, w6, w7, w8] = none ↔
      field w0 1 15 ≠ 0 ∨ (field w0 0 1 = 1 ∧
        (pitchOk (coordOfWords w5 w6) = false ∨ pitchOk (coordOfWords w7 w8) = false)) := by
  unfold parseGrid
  dsimp only
  split
  · next reserved => simp [reserved]
  · next reserved =>
    split
    · next absent => simp [not_not.mp reserved, absent]
    · next present =>
      have one : field w0 0 1 = 1 := (field_bit w0 0).resolve_left present
      rw [or_iff_right reserved, and_iff_right one]
      split
      · next pitches =>
        obtain ⟨px, py⟩ := (Bool.and_eq_true _ _).mp pitches
        simp [px, py]
      · next outside =>
        rw [Bool.not_eq_true, Bool.and_eq_false_iff] at outside
        simpa using outside

theorem parseSettings_eq_none_iff (w0 w1 w2 w3 : Word) : parseSettings [w0, w1, w2, w3] = none ↔
    ¬ (field w0 6 10 = 0 ∧ 1 ≤ w2.toNat ∧ w2.toNat ≤ 1023 ∧ field w3 0 8 ≤ 15 ∧ field w3 10 6 = 0) := by
  unfold parseSettings
  dsimp only
  split
  · next fits => simp only [reduceCtorEq, false_iff, not_not]; exact fits
  · next bad => simp only [true_iff]; exact bad

/-- Settles O51: each parse in terms of its fields. -/
theorem recordsRefusedExactly : Obligations.RecordsRefusedExactly := by
  refine ⟨field_eq_shift, fun w0 w1 w2 w3 w4 w5 w6 => ?_, fun w0 w1 => ?_,
    fun w0 w1 w2 w3 w4 w5 w6 w7 w8 => ?_, fun w0 w1 w2 w3 w4 w5 => ?_,
    fun w0 w1 w2 w3 w4 w5 w6 w7 w8 => ?_, fun w0 w1 w2 w3 => ?_⟩
  · rw [parseEntry_eq_none_iff, snapKind_ofCode_none, entryFits]
    omega
  · rw [parseRemoval_eq_none_iff, snapKind_ofCode_none]
    omega
  · rw [parseWindow_eq_none_iff]
    simp only [coordOfWords_append]
  · rw [parseView_eq_none_iff]
    have zero : w4 = 0 ↔ w4.toNat = 0 := BitVec.toNat_eq
    have order {a b c d : Prop} : (a ∨ b ∨ c) ∨ d ↔ b ∨ c ∨ a ∨ d := by tauto
    rw [order, zero, ← coordOfWords_append, ← coordOfWords_append]
    rfl
  · rw [parseGrid_eq_none_iff, pitchOk_eq_false_iff, pitchOk_eq_false_iff]
    simp only [coordOfWords_append, or_assoc]
  · rw [parseSettings_eq_none_iff]
    omega

/-! ## Records laid out and read back -/

theorem bitVec_ofNat_toNat {n : Nat} (x : BitVec n) : BitVec.ofNat n x.toNat = x := by
  rw [BitVec.ofNat_toNat, BitVec.setWidth_eq]

theorem snapKind_code_lt (k : SnapKind) : k.code < 15 := by cases k <;> decide

/-- The second word of an entry record: kind, class and layer (R197). -/
theorem entryWord_fields (k : SnapKind) (cls : BitVec 2) (layer : BitVec 4) :
    let w := wordOf (k.code + 16 * cls.toNat + 256 * layer.toNat)
    field w 0 4 = k.code ∧ field w 4 2 = cls.toNat ∧ field w 6 2 = 0 ∧ field w 8 8 = layer.toNat := by
  have kind := snapKind_code_lt k
  have c := cls.isLt
  have l := layer.isLt
  intro w
  have small : k.code + 16 * cls.toNat + 256 * layer.toNat < 65536 := by omega
  refine ⟨?_, ?_, ?_, ?_⟩
  all_goals
    rw [field_wordOf _ _ small]
    omega

theorem parseEntry_laidOut (h : Word) (k : SnapKind) (cls : BitVec 2) (layer : BitVec 4) (x y : Coord) {w2 : Word}
    (seats : field w2 0 2 ≠ 0) (reserved : field w2 2 14 = 0) :
    parseEntry [h, wordOf (k.code + 16 * cls.toNat + 256 * layer.toNat), w2, x.setWidth 16,
      (x >>> 16).setWidth 16, y.setWidth 16, (y >>> 16).setWidth 16] =
      some { handle := h, kind := k, cls := cls, layer := layer
             seats := ⟨field w2 0 1 == 1, field w2 1 1 == 1⟩, point := ⟨x, y⟩ } := by
  obtain ⟨kind, class', zero, level⟩ := entryWord_fields k cls layer
  have layerFits : layer.toNat ≤ 15 := Nat.le_of_lt_succ layer.isLt
  rw [parseEntry_of_kind (by rw [kind]; exact snapKind_ofCode_code k)
    ⟨zero, by rw [level]; exact layerFits, seats, reserved⟩, class', level, bitVec_ofNat_toNat,
    bitVec_ofNat_toNat, coordOfWords_halves, coordOfWords_halves]

/-- One bit of a record's word (R197). -/
def recordBit (b : Bool) : Nat := if b then 1 else 0

theorem recordBit_le (b : Bool) : recordBit b ≤ 1 := by cases b <;> decide

theorem recordBit_beq (b : Bool) : (recordBit b == 1) = b := by cases b <;> rfl

/-- The last word of a settings record: deadband and the two switches (R197). -/
theorem settingsWord_fields (d : BitVec 4) (g o : Bool) :
    let w := wordOf (d.toNat + 256 * recordBit g + 512 * recordBit o)
    field w 0 8 = d.toNat ∧ field w 8 1 = recordBit g ∧ field w 9 1 = recordBit o ∧ field w 10 6 = 0 := by
  have deadband := d.isLt
  have grid := recordBit_le g
  have ortho := recordBit_le o
  intro w
  have small : d.toNat + 256 * recordBit g + 512 * recordBit o < 65536 := by omega
  refine ⟨?_, ?_, ?_, ?_⟩
  all_goals
    rw [field_wordOf _ _ small]
    omega

theorem parseSettings_laidOut (v : Settings) (radius : v.radius ≠ 0) :
    parseSettings [wordOf v.kinds.toNat, v.layers, wordOf v.radius.toNat,
      wordOf (v.deadband.toNat + 256 * recordBit v.gridSnap + 512 * recordBit v.ortho)] = some v := by
  obtain ⟨deadband, grid, ortho, reserved⟩ := settingsWord_fields v.deadband v.gridSnap v.ortho
  have kinds := v.kinds.isLt
  have kindsSmall : v.kinds.toNat < 65536 := by omega
  have kindsField : field (wordOf v.kinds.toNat) 0 6 = v.kinds.toNat := by
    rw [field_wordOf _ _ kindsSmall]
    omega
  have kindsReserved : field (wordOf v.kinds.toNat) 6 10 = 0 := by
    rw [field_wordOf _ _ kindsSmall]
    omega
  have radiusBound := v.radius.isLt
  have radiusValue : (wordOf v.radius.toNat).toNat = v.radius.toNat := by
    rw [wordOf, BitVec.toNat_ofNat]
    exact Nat.mod_eq_of_lt (by omega)
  have positive : 1 ≤ v.radius.toNat := Nat.one_le_iff_ne_zero.mpr fun zero =>
    radius (BitVec.eq_of_toNat_eq zero)
  have deadbandBound := v.deadband.isLt
  unfold parseSettings
  dsimp only
  rw [kindsField, kindsReserved, radiusValue, deadband, grid, ortho, reserved, bitVec_ofNat_toNat,
    bitVec_ofNat_toNat, bitVec_ofNat_toNat, recordBit_beq, recordBit_beq]
  exact if_pos ⟨rfl, positive, by omega, by omega, rfl⟩

theorem parseEntry_ofEntry {e : Entry} (seat : anySeat e.seats = true) :
    parseEntry [e.handle, wordOf (e.kind.code + 16 * e.cls.toNat + 256 * e.layer.toNat),
      wordOf (recordBit e.seats.ch0 + 2 * recordBit e.seats.ch1), e.point.x.setWidth 16,
      (e.point.x >>> 16).setWidth 16, e.point.y.setWidth 16, (e.point.y >>> 16).setWidth 16] = some e := by
  have fields : let w := wordOf (recordBit e.seats.ch0 + 2 * recordBit e.seats.ch1)
      field w 0 2 ≠ 0 ∧ field w 2 14 = 0 ∧ (field w 0 1 == 1) = e.seats.ch0 ∧
        (field w 1 1 == 1) = e.seats.ch1 := by
    have seated : (e.seats.ch0 || e.seats.ch1) = true := seat
    cases zero : e.seats.ch0 <;> cases one : e.seats.ch1
    · rw [zero, one] at seated
      exact Bool.noConfusion seated
    all_goals decide
  obtain ⟨seats, reserved, zero, one⟩ := fields
  rw [parseEntry_laidOut _ _ _ _ _ _ seats reserved, zero, one]

theorem parseWindow_laidOut {x0 y0 x1 y1 : Coord} (xs : x0.toInt ≤ x1.toInt) (ys : y0.toInt ≤ y1.toInt) :
    parseWindow [0, x0.setWidth 16, (x0 >>> 16).setWidth 16, y0.setWidth 16, (y0 >>> 16).setWidth 16,
      x1.setWidth 16, (x1 >>> 16).setWidth 16, y1.setWidth 16, (y1 >>> 16).setWidth 16] =
      some (.rect x0 y0 x1 y1) := by
  unfold parseWindow
  dsimp only
  simp only [coordOfWords_halves]
  have rect : ¬ (x0.toInt > x1.toInt ∨ y0.toInt > y1.toInt) := by omega
  exact if_neg rect

theorem parseView_laidOut {v : View} (wf : v.Wf) :
    parseView [v.ox.setWidth 16, (v.ox >>> 16).setWidth 16, v.oy.setWidth 16, (v.oy >>> 16).setWidth 16, v.n,
      wordOf v.shift.toNat] = some (v.ox, v.oy, v.n, v.shift) := by
  obtain ⟨nonzero, xFits, yFits⟩ := wf
  have shift := v.shift.isLt
  have shiftSmall : v.shift.toNat < 65536 := by omega
  have shiftField : field (wordOf v.shift.toNat) 0 8 = v.shift.toNat := by
    rw [field_wordOf _ _ shiftSmall]
    omega
  have reserved : field (wordOf v.shift.toNat) 8 8 = 0 := by
    rw [field_wordOf _ _ shiftSmall]
    omega
  have formed : ¬ ((0 : Nat) ≠ 0 ∨ v.n = 0 ∨ v.shift.toNat > 15) :=
    not_or.mpr ⟨not_not.mpr rfl, not_or.mpr ⟨nonzero, by omega⟩⟩
  have fits : ¬ (v.ox.toInt + farAddend v.n v.shift.toNat > 2147483647 ∨
      v.oy.toInt + farAddend v.n v.shift.toNat > 2147483647) :=
    not_or.mpr ⟨Int.not_lt.mpr xFits, Int.not_lt.mpr yFits⟩
  unfold parseView
  dsimp only
  rw [coordOfWords_halves, coordOfWords_halves, shiftField, reserved, if_neg formed, if_neg fits,
    bitVec_ofNat_toNat]

theorem parseGrid_laidOut {g : Grid} (present : g.present = true) (wf : g.Wf) :
    parseGrid [1, g.gx.setWidth 16, (g.gx >>> 16).setWidth 16, g.gy.setWidth 16, (g.gy >>> 16).setWidth 16,
      g.px.setWidth 16, (g.px >>> 16).setWidth 16, g.py.setWidth 16, (g.py >>> 16).setWidth 16] = some g := by
  rcases g with ⟨shown, gx, gy, px, py⟩
  obtain ⟨xOk, yOk⟩ : pitchOk px = true ∧ pitchOk py = true := wf
  obtain rfl : shown = true := present
  unfold parseGrid
  dsimp only
  simp only [coordOfWords_halves, xOk, yOk]
  rfl

/-- Settles O50: each layout is read back by its own rule. -/
theorem recordsReadBack : Obligations.RecordsReadBack := by
  unfold Obligations.RecordsReadBack
  refine ⟨fun e => parseEntry_ofEntry, fun h k => ?_, fun x0 y0 x1 y1 => parseWindow_laidOut,
    fun w1 w2 w3 w4 w5 w6 w7 w8 => rfl, fun v => parseView_laidOut, fun g => parseGrid_laidOut,
    fun w1 w2 w3 w4 w5 w6 w7 w8 => rfl, parseSettings_laidOut⟩
  rcases k with _ | k
  · rfl
  · cases k <;> rfl

end Sys2Proof.Machine
end
